-- ==== Sys2Proof/Word.lean ====
section
/-! DEFINITION. The word types of the OS-418: the byte of the two links (R2, R179). -/

namespace Sys2Proof

/-- One byte of the park line (R2) or of the pedestal link (R179). -/
abbrev Byte := BitVec 8

end Sys2Proof
end

