-- ==== Sys2Proof/Config.lean ====
section
/-! DEFINITION. What the part fixes once for all: codes, periods, limits. The manual leaves no value of the OS-418 open,
so this file holds no opaque (free) value; every number below is the manual's own, at the rule it cites. -/

namespace Sys2Proof.Config

/-- The part code that IDENTIFY returns (R196). -/
abbrev partCode : Nat := 0x0418
/-- The revision that IDENTIFY returns (R196). -/
abbrev revision : Nat := 1
/-- The period of the round timer in ms (R66). -/
abbrev roundMs : Nat := 250
/-- The step by which a station number delays its first round, in ms (R66). -/
abbrev roundStaggerMs : Nat := 7
/-- Recessive cells that make the line idle (R3). -/
abbrev idleCells : Nat := 11
/-- Dominant cells that make the line stuck (R15). -/
abbrev stuckCells : Nat := 16
/-- The longest payload of a park-line frame (R4, R6). -/
abbrev maxPayload : Nat := 16
/-- The age at which an entry leaves its table (R26). -/
abbrev holdCount : Nat := 8
/-- The highest age at which an entry is FRESH (R27). -/
abbrev freshAge : Nat := 2
/-- The state timer at which an acknowledged JOINING station enters SHARING (R71), and from which ISOLATED follows the
demand (R57). -/
abbrev joinRounds : Nat := 9
/-- The failed-round count that isolates the station (R71, R72). -/
abbrev failLimit : Nat := 3
/-- The state timer is held at this value (R69). -/
abbrev timerMax : Nat := 255
/-- Rounds from one site-trip placement to the next (R82). -/
abbrev tripRounds : Nat := 4
/-- The largest value of a 16-bit field: the clamp of R62, R63 and R190. -/
abbrev field16Max : Nat := 65535
/-- Full scale of the voltage field of a SAMPLE, in 0.1 V (R89). -/
abbrev voltageMax : Nat := 10000
/-- Full scale of the current field of a SAMPLE, in 0.1 A (R89). -/
abbrev currentMax : Nat := 6000
/-- Residue units in one Wh (R111). -/
abbrev residuePerWh : Nat := 36000000
/-- Units of 0.01 W in one power unit (R117, R119). -/
abbrev perPowerUnit : Nat := 10000
/-- The overdraw count at which a further exceeding sample hands OVERDRAW (R119). -/
abbrev overdrawLast : Nat := 19
/-- The pulse energy of one cross-check window, in Wh (R115). -/
abbrev windowWh : Nat := 1000
/-- The largest difference with which a window agrees, in Wh (R115). -/
abbrev windowMargin : Nat := 50
/-- The disagree count at which a further disagreeing window raises METER (R116). -/
abbrev disagreeLast : Nat := 2
/-- The energy limit of a session, in Wh (R142). -/
abbrev energyLimit : Nat := 2000000
/-- Micro-units in one hundredth of the currency unit (R143, R161). -/
abbrev microPerHundredth : Nat := 10000
/-- The remainder from which the settled amount is rounded up (R161). -/
abbrev roundUpFrom : Nat := 5000
/-- The idle minutes are held at this value (R144). -/
abbrev idleMinutesMax : Nat := 65535
/-- Places of the settlement queue (R167). -/
abbrev queuePlaces : Nat := 16
/-- Seconds in a day (R197). -/
abbrev daySeconds : Nat := 86400
/-- Days after which the day number returns to 0 (R197). -/
abbrev dayWrap : Nat := 65536
/-- The highest length byte of a command frame (R179, R180). -/
abbrev maxLength : Nat := 96
/-- Peer entries that one READ_VIEW response holds at most (R37). -/
abbrev viewEntries : Nat := 7

end Sys2Proof.Config
end

