-- ==== Sys2Proof/Syntax.lean ====
section
/-! DEFINITION. The commands of the OS-418: one constructor of `Instr` for each row of spec/opcode_table.json, with the
operands that the row's rule gives the event (a line's level, a message's fields, a frame's bytes, a command's data). -/

namespace Sys2Proof

/-- The two outlets of the pedestal (section 1.5 of the scope file). -/
inductive Outlet where
  | a
  | b
  deriving DecidableEq, Repr

/-- The levels of the strap pins at a hard reset (R193): five number pins, two rate pins, one pin each for the billing
source (set: PULSE) and for the outlets fitted (set: two outlets). -/
structure StrapPins where
  station : BitVec 5
  rate : BitVec 2
  source : Bool
  outlets : Bool
  deriving DecidableEq, Repr

/-- The levels of the input lines that the part samples as it comes out of a hard reset: plug sense, contactor feedback
and emergency stop (R106), the meter pulse inputs (R124), the site-trip input (R82, R87) and HOLD (R191). -/
structure InputLevels where
  plugA : Bool
  plugB : Bool
  feedbackA : Bool
  feedbackB : Bool
  emergencyStop : Bool
  pulseA : Bool
  pulseB : Bool
  siteTrip : Bool
  hold : Bool
  deriving DecidableEq, Repr

/-- Why the stage port discards a message of the power stage (R89). -/
inductive DiscardReason where
  | damaged
  | absentOutlet
  | unknown
  deriving DecidableEq, Repr

/-- The commands: one constructor for each row of spec/opcode_table.json, in the table's order. Five events of the park line
have an operand with a default, which lets Lean text name the event alone; every command carries its operand, and no rule
uses the default. -/
inductive Instr where
  /-- HARD_RESET (R199): the strap pins and the input lines as sampled. -/
  | hardReset (pins : StrapPins) (levels : InputLevels)
  /-- CLOCK_TICK (R197). -/
  | clockTick
  /-- ROUND (R67). -/
  | round
  /-- TRANSMIT_START (R10). -/
  | transmitStart
  /-- TRANSMIT_COMPLETE (R12): whether LI samples the ack cell dominant. -/
  | transmitComplete (ackDominant : Bool)
  /-- ARBITRATION_LOST (R11): the data cell of the header, counted from 0, in which LI sent recessive and saw dominant. -/
  | arbitrationLost (cell : Fin 8 := 0)
  /-- NUMBER_CLASH (R19): after the header, the cell of the own frame, counted from 0 at the header's lead cell, in which LI
  sent recessive and saw dominant; absent when the clash is found by hearing. -/
  | numberClash (cell : Option Nat := none)
  /-- TX_FAULT (R17): the cell of the own frame, counted from 0 at the header's lead cell, that LI drove dominant and saw
  recessive. -/
  | txFault (cell : Nat := 0)
  /-- FRAMING_ERROR (R14): the data of the byte whose tail cell was found dominant. -/
  | framingError (byte : Byte := 0)
  /-- LINE_STUCK (R15). -/
  | lineStuck
  /-- LINE_IDLE (R3). -/
  | lineIdle
  /-- FRAME_EVALUATION (R6): the bytes of the received frame from header to check, as far as LI assembled it. -/
  | frameEvaluation (bytes : List Byte)
  /-- HOLD_TIMER_EXPIRY (R33). -/
  | holdTimerExpiry
  /-- SITE_TRIP_ASSERTED (R82). -/
  | siteTripAsserted
  /-- SITE_TRIP_RELEASED (R82). -/
  | siteTripReleased
  /-- STAGE_MESSAGE_DISCARDED (R89). -/
  | stageMessageDiscarded (why : DiscardReason)
  /-- SAMPLE (R89, R110): the fields of the message as received. -/
  | sample (x : Outlet) (voltage current : BitVec 16) (voltageSaturated currentSaturated : Bool)
  /-- SETTLED (R93): the outlet and the ceiling value. -/
  | settled (x : Outlet) (value : BitVec 16)
  /-- ORDER_TIMER_EXPIRY (R94). -/
  | orderTimerExpiry (x : Outlet)
  /-- FEEDBACK_CLOSED (R98, R100). -/
  | feedbackClosed (x : Outlet)
  /-- FEEDBACK_OPEN (R99, R100). -/
  | feedbackOpen (x : Outlet)
  /-- CONTACTOR_TIMER_EXPIRY (R98, R99). -/
  | contactorTimerExpiry (x : Outlet)
  /-- PLUG_INSERTED (R102). -/
  | plugInserted (x : Outlet)
  /-- PLUG_REMOVED (R102). -/
  | plugRemoved (x : Outlet)
  /-- EMERGENCY_STOP_ASSERTED (R103). -/
  | emergencyStopAsserted
  /-- EMERGENCY_STOP_RELEASED (R104). -/
  | emergencyStopReleased
  /-- METER_PULSE (R114). -/
  | meterPulse (x : Outlet)
  /-- STAGE_LOST (R121). -/
  | stageLost (x : Outlet)
  /-- NO_VEHICLE (R130). -/
  | noVehicle (x : Outlet)
  /-- IDLE_MINUTE (R144). -/
  | idleMinute (x : Outlet)
  /-- COMMAND_FRAME_COMPLETE (R181): the last check byte of the frame. -/
  | commandFrameComplete (last : Byte)
  /-- LINK_BAD_LENGTH (R180): the length byte. -/
  | linkBadLength (length : Byte)
  /-- LINK_STOP_BIT_ERROR (R180). -/
  | linkStopBitError
  /-- LINK_GAP_TIMEOUT (R180). -/
  | linkGapTimeout
  /-- RESPONSE_SENT (R183). -/
  | responseSent
  /-- HOLD_RELEASED (R183). -/
  | holdReleased
  /-- HOLD_ASSERTED (R183). -/
  | holdAsserted
  /-- UNKNOWN_COMMAND (R182): a code that R185 does not define, and its data. -/
  | unknownCommand (code : Byte) (data : List Byte)
  /-- CONFIGURE (R194): its data bytes; so for each command below. -/
  | configure (data : List Byte)
  /-- IDENTIFY (R196). -/
  | identify (data : List Byte)
  /-- SET_CLOCK (R198). -/
  | setClock (data : List Byte)
  /-- RESTART (R200). -/
  | restart (data : List Byte)
  /-- LOAD_TARIFF (R152). -/
  | loadTariff (data : List Byte)
  /-- OPEN_SESSION (R127, R128). -/
  | openSession (data : List Byte)
  /-- DEMAND (R133). -/
  | demand (data : List Byte)
  /-- STOP_SESSION (R136). -/
  | stopSession (data : List Byte)
  /-- READ_SESSION (R148). -/
  | readSession (data : List Byte)
  /-- SET_CURTAIL (R80). -/
  | setCurtail (data : List Byte)
  /-- SITE_HALT (R84). -/
  | siteHalt (data : List Byte)
  /-- READ_VIEW (R37). -/
  | readView (data : List Byte)
  /-- READ_SETTLEMENT (R171). -/
  | readSettlement (data : List Byte)
  /-- RELEASE_SETTLEMENT (R172). -/
  | releaseSettlement (data : List Byte)
  /-- READ_STATUS (R190). -/
  | readStatus (data : List Byte)
  /-- CLEAR_CAUSES (R188). -/
  | clearCauses (data : List Byte)
  /-- SET_MASK (R189). -/
  | setMask (data : List Byte)
  /-- PEER_LEAD_CELL (R3): a dominant cell of a peer, and whether it is a recessive-to-dominant edge or a further cell of a
  dominant run. -/
  | peerLeadCell (edge : Bool := true)
  /-- LINK_BYTE_RECEIVED (R180): the byte. -/
  | linkByteReceived (byte : Byte)
  /-- PULSE_INPUT_RELEASED (R114). -/
  | pulseInputReleased (x : Outlet)
  deriving DecidableEq, Repr

end Sys2Proof
end

