-- ==== Sys2Proof/Decode.lean ====
section
/-! DEFINITION. The commands that a word spells. The opcode table of the OS-418 gives no row any bits: its commands are
events at the part's ports and commands of a byte-serial link, whose frames Machine/Link.lean reads byte by byte (R180,
R181). So no word spells a command, and every word is rejected. -/

namespace Sys2Proof

/-- The command that a word of the opcode table's bits spells: none, since no row of the table gives bits. -/
def decodeTableWord (_nbits _w : Nat) : Option Instr := none

end Sys2Proof
end

