-- ==== Sys2Proof/Machine/State.lean ====
section
/-! DEFINITION. The state of the OS-418, block by block (section 1.3 of the scope file), as plain data, and the state
after a hard reset. Quantities that the manual computes with "in full" (R42, R158) are natural numbers; the two sets of
attention causes that the manual numbers bit by bit (R186, R187) and the bytes of the links are bit vectors. -/

namespace Sys2Proof.Machine

/-! ## Configuration and clock (CF) -/

/-- The line-rate strap as read (R193). -/
inductive LineRate where
  | low
  | middle
  | high
  deriving DecidableEq, Repr

/-- The billing-source strap as read (R113, R193). -/
inductive BillingSource where
  | sample
  | pulse
  deriving DecidableEq, Repr

/-- The strap values, held from one hard reset to the next (R193). -/
structure Straps where
  /-- 0 to 31. -/
  station : BitVec 5
  rate : LineRate
  source : BillingSource
  /-- Whether outlet B is fitted; outlet A always is. -/
  twoOutlets : Bool
  deriving DecidableEq, Repr

/-- The configuration record of CONFIGURE (R194), power in power units. -/
structure Configuration where
  /-- B -/
  budget : Nat
  /-- M -/
  margin : Nat
  /-- F -/
  fallback : Nat
  /-- N -/
  population : Nat
  /-- U -/
  ramp : Nat
  /-- P -/
  rated : Nat
  ratingA : Nat
  ratingB : Nat
  /-- T -/
  tolerance : Nat
  /-- Wh per meter pulse: 1, 2, 5 or 10. -/
  pulseWeight : Nat
  /-- Site-trip halt duration in seconds. -/
  tripSeconds : Nat
  deriving DecidableEq, Repr

/-- CF (R193 to R199). The one-second timer runs always and its phase is time, which the model leaves out. -/
structure ConfigClock where
  straps : Straps
  /-- The configuration record; the configured flag of R195 is that it is present. -/
  config : Option Configuration
  day : Nat
  second : Nat
  clockSet : Bool
  deriving DecidableEq, Repr

/-! ## Line interface (LI) -/

/-- The line condition (R3). -/
inductive LineCondition where
  | idle
  | busy
  | stuck
  deriving DecidableEq, Repr

/-- The last line fault (R18). -/
inductive LineFault where
  | noFault
  | txFault
  | lineStuck
  | strayStation
  deriving DecidableEq, Repr

/-- The frame kinds that R4 defines, with one transmit slot each (section 1.5 of the park line). -/
inductive FrameKind where
  | halt
  | curtail
  | announce
  deriving DecidableEq, Repr

/-- What LI is doing with the frame on the line (R6, R10, R11). -/
inductive LineActivity where
  /-- No frame of LI's concern: the line is idle, or cells pass outside a frame (R3). -/
  | quiet
  /-- A received frame is being assembled (R6). -/
  | receiving
  /-- A transmission is in progress: the slot chosen, the bytes being sent (R9: the old bytes even when replaced), and
  whether the slot was replaced since (R9, R12). -/
  | sending (kind : FrameKind) (bytes : List Byte) (replaced : Bool)
  deriving DecidableEq, Repr

/-- LI (R1 to R22). -/
structure LineInterface where
  condition : LineCondition
  /-- The recessive count as of the last line event that fixes it (R3). -/
  recessive : Nat
  /-- The dominant count as of the last line event that fixes it (R3). -/
  dominant : Nat
  activity : LineActivity
  haltSlot : Option (List Byte)
  curtailSlot : Option (List Byte)
  announceSlot : Option (List Byte)
  lastFault : LineFault
  /-- Whether LI drove the ack cell of the last frame that FRAME_EVALUATION took (R7): an output of the part. -/
  ackDriven : Bool
  deriving DecidableEq, Repr

/-! ## Peer view (PV) -/

/-- One entry of the peer table (R23). Its freshness and reservation follow from it (R27). -/
structure PeerEntry where
  station : Nat
  joining : Bool
  halted : Bool
  weight : Nat
  demand : Nat
  ceiling : Nat
  claim : Nat
  draw : Nat
  parity : Bool
  age : Nat
  deriving DecidableEq, Repr

/-- One peer entry of the curtail list (R29). -/
structure CurtailEntry where
  station : Nat
  level : Nat
  age : Nat
  deriving DecidableEq, Repr

/-- The halt record (R35). -/
structure HaltRecord where
  source : Nat
  reason : Nat
  deriving DecidableEq, Repr

/-- PV (R23 to R40). The effective curtail level is computed from the list (R31). -/
structure PeerView where
  /-- In ascending station number (R23). -/
  peers : List PeerEntry
  /-- The peer entries of the curtail list, in ascending station number. -/
  curtail : List CurtailEntry
  /-- The level of the own entry of the curtail list, when it stands (R30). -/
  ownCurtail : Option Nat
  /-- The remaining count of the halt hold in seconds (R32). -/
  hold : Nat
  /-- Whether the one-second hold timer runs (R33). -/
  holdTimer : Bool
  haltRecord : Option HaltRecord
  deriving DecidableEq, Repr

/-! ## Share engine (SE) -/

/-- The share state (R69). -/
inductive ShareState where
  | unconfigured
  | joining
  | sharing
  | isolated
  | barred
  deriving DecidableEq, Repr

/-- The round figures E, S and H; `none` is "not computed" (R64). -/
structure RoundFigures where
  budget : Option Nat
  share : Option Nat
  headroom : Option Nat
  deriving DecidableEq, Repr

/-- SE (R41, R66, R69, R82). -/
structure ShareEngine where
  state : ShareState
  /-- The state timer in rounds. -/
  timer : Nat
  failed : Nat
  /-- The JOINING cap. -/
  cap : Nat
  /-- The marker "frame built last round" (R68). -/
  frameBuilt : Bool
  /-- The claim field of the ANNOUNCE last built (R55, R68). -/
  frameClaim : Nat
  /-- Whether LI has reported the acknowledgement of that ANNOUNCE since (R13). -/
  ackReported : Bool
  /-- C -/
  ceiling : Nat
  /-- K -/
  claim : Nat
  prevClaim : Nat
  /-- The outcome of the previous claim is ACKNOWLEDGED. -/
  prevAcked : Bool
  parity : Bool
  figures : RoundFigures
  /-- The own curtail origin. -/
  origin : Nat
  /-- The level of the site-trip input. -/
  tripInput : Bool
  /-- The site-trip repeat count. -/
  tripRepeat : Nat
  /-- The first expiry of the round timer after hard reset, in ms: the timer's phase (R66). The timer runs always. -/
  roundPhaseMs : Nat
  deriving DecidableEq, Repr

/-! ## Per outlet: stage port (SP), meter unit (MU), session controller (SC) -/

/-- The order timer (R94): `expired` is "expired on the present order" (R105). It stands until an order that changes the value
starts the timer again; a late confirmation does not undo it (R93; DEDUCED: log entry 27). -/
inductive OrderTimer where
  | stopped
  | running
  | expired
  deriving DecidableEq, Repr

/-- The contactor state (R95). -/
inductive Contactor where
  | isOpen
  | closeWait
  | closed
  | openWait
  | welded
  deriving DecidableEq, Repr

/-- SP's record of one outlet (R91, R95, R101). -/
structure StageOutlet where
  ordered : Nat
  confirmed : Nat
  /-- The confirmation is CONFIRMED. -/
  isConfirmed : Bool
  orderTimer : OrderTimer
  contactor : Contactor
  /-- The drive level is closed. -/
  driveClosed : Bool
  /-- The contactor timer runs. -/
  contactorTimer : Bool
  pendingClose : Bool
  /-- The filtered feedback level reads closed. -/
  feedbackClosed : Bool
  /-- The filtered plug-sense level is present. -/
  plugPresent : Bool
  deriving DecidableEq, Repr

/-- MU's record of one outlet (R108). -/
structure MeterOutlet where
  /-- The metering window is OPEN. -/
  windowOpen : Bool
  residue : Nat
  /-- The round power sum in 0.01 W. -/
  powerSum : Nat
  sampleCount : Nat
  lastDraw : Nat
  overdraw : Nat
  /-- The silence timer runs. -/
  silenceTimer : Bool
  /-- The filtered level of the meter pulse input is asserted. -/
  pulseAsserted : Bool
  windowPulse : Nat
  windowSample : Nat
  disagree : Nat
  deriving DecidableEq, Repr

/-- The outlet states (R126). -/
inductive OutletState where
  | vacant
  | awaitPlug
  | connecting
  | energising
  | suspended
  | closing
  | idle
  | outOfService
  deriving DecidableEq, Repr

/-- The two steps of CLOSING (R138). -/
inductive ClosingStep where
  | rampDown
  | openStep
  deriving DecidableEq, Repr

/-- The two tariff banks (R151). -/
inductive BankId where
  | bank0
  | bank1
  deriving DecidableEq, Repr

/-- One band line of a session record (R142, R147), with the band's price that R170 sends. -/
structure BandLine where
  band : Nat
  wh : Nat
  cost : Nat
  price : Nat
  deriving DecidableEq, Repr

/-- The session flags (R147). -/
structure SessionFlags where
  meterClamped : Bool
  meterDisagree : Bool
  capOverrun : Bool
  idleClamped : Bool
  clockStepped : Bool
  reduced : Bool
  halted : Bool
  weldSuspect : Bool
  deriving DecidableEq, Repr

/-- A session record (R147): live in SC, and completed in SQ. -/
structure SessionRecord where
  id : Nat
  outlet : Outlet
  /-- The authorisation reference, 8 bytes as given. -/
  auth : List Byte
  bank : BankId
  tariffId : Nat
  startDay : Nat
  startSecond : Nat
  /-- The end day and second; absent until settlement. -/
  endTime : Option (Nat × Nat)
  /-- The end reason by its code (R137); absent until the session ends. -/
  endReason : Option Nat
  /-- In ascending band index. -/
  lines : List BandLine
  billedWh : Nat
  energyCap : Nat
  costCap : Nat
  idleMinutes : Nat
  billedIdle : Nat
  idleFee : Nat
  fee : Nat
  flags : SessionFlags
  deriving DecidableEq, Repr

/-- SC's record of one outlet (R126). -/
structure SessionOutlet where
  state : OutletState
  requested : Nat
  session : Option SessionRecord
  /-- The await timer runs (R130). -/
  awaitTimer : Bool
  /-- The idle minute timer runs (R144). -/
  idleTimer : Bool
  /-- The marker "open check pending" (R126). -/
  openCheck : Bool
  /-- The step of CLOSING; read in CLOSING only (R138). -/
  step : ClosingStep
  deriving DecidableEq, Repr

/-- The three blocks' records of one outlet. -/
structure OutletRecord where
  sp : StageOutlet
  mu : MeterOutlet
  sc : SessionOutlet
  deriving DecidableEq, Repr

/-! ## Tariff store (TS) and settlement queue (SQ) -/

/-- One band of a tariff (R151). -/
structure Band where
  start : Nat
  price : Nat
  deriving DecidableEq, Repr

/-- The contents of a LOADED bank (R151). -/
structure Tariff where
  id : Nat
  fee : Nat
  bands : List Band
  idleGrace : Nat
  idlePrice : Nat
  idleMax : Nat
  deriving DecidableEq, Repr

/-- One tariff bank: EMPTY is `none`, whose contents R165 says are not read. -/
structure Bank where
  tariff : Option Tariff
  bound : Nat
  deriving DecidableEq, Repr

/-- TS (R151). -/
structure TariffStore where
  bank0 : Bank
  bank1 : Bank
  /-- The active-bank marker. -/
  active : Option BankId
  deriving DecidableEq, Repr

/-- A settlement record: the completed session record with its settled amount in hundredths (R169). -/
structure SettlementRecord where
  record : SessionRecord
  amount : Nat
  deriving DecidableEq, Repr

/-- SQ (R167). -/
structure SettlementQueue where
  /-- Head first. -/
  queue : List SettlementRecord
  reserved : Nat
  deriving DecidableEq, Repr

/-! ## Pedestal link (PK) -/

/-- The receiver (R180): in BODY the length byte and the bytes kept so far, in order. -/
inductive Receiver where
  | hunt
  | length
  | body (length : Byte) (kept : List Byte)
  | skip
  deriving DecidableEq, Repr

/-- The command buffer (R181, R182): a command waits, or a BAD_FRAME answer waits with the code it echoes. -/
inductive CommandBuffer where
  | empty
  | command (code : Byte) (data : List Byte)
  | badFrame (code : Byte)
  deriving DecidableEq, Repr

/-- A response (R179): the code echoed, the status and the data. -/
structure Response where
  code : Byte
  status : Byte
  data : List Byte
  deriving DecidableEq, Repr

/-- The response buffer (R183). -/
inductive ResponseBuffer where
  | empty
  | held (r : Response)
  | sending (r : Response)
  deriving DecidableEq, Repr

/-- What the link brings to the receiver (R180): a byte, a byte with a stop-bit error, or a gap of more than 5 ms. -/
inductive LinkInput where
  | byte (b : Byte)
  | stopBitError
  | gap
  deriving DecidableEq, Repr

/-- PK (R179 to R192). The flag of SETTLE_PENDING follows the queue (R175) and is computed from it. -/
structure PedestalLink where
  receiver : Receiver
  /-- The gap timer runs (R180, R191). -/
  gapTimer : Bool
  command : CommandBuffer
  response : ResponseBuffer
  /-- The HOLD input is asserted. -/
  hold : Bool
  /-- The pending flags of the nine edge causes: bit i stands for bit i + 1 of R186's table. -/
  edge : BitVec 9
  /-- The attention mask (R187). -/
  mask : BitVec 10
  /-- The model's own field: what comes in on the link while the work of the next service restart is done, in order (R192). It is
  filled from outside, like the queue of commands (log entry 28). -/
  restartInput : List LinkInput
  deriving DecidableEq, Repr

/-! ## The whole part -/

/-- A SETPOINT message that SP has sent (R92). -/
structure Setpoint where
  outlet : Outlet
  value : Nat
  deriving DecidableEq, Repr

/-- The state of the OS-418, and the commands that wait to be taken. -/
structure State where
  cf : ConfigClock
  li : LineInterface
  pv : PeerView
  se : ShareEngine
  /-- The records of outlet A in SP, MU and SC. -/
  outA : OutletRecord
  /-- The records of outlet B; when outlet B is not fitted they keep their reset values. -/
  outB : OutletRecord
  /-- SP: the filtered level of the emergency-stop input is asserted (R103). -/
  estop : Bool
  /-- The SETPOINT messages that SP has sent since hard reset, oldest first (R92): an output of the part. -/
  stageTx : List Setpoint
  /-- SC: the session id counter, the next id to assign (R129). -/
  nextId : Nat
  ts : TariffStore
  sq : SettlementQueue
  pk : PedestalLink
  /-- The commands that wait, first in, first out. -/
  pending : List Instr
  deriving DecidableEq, Repr

/-- The reasons for which a step could fault: there is none. No command of the OS-418 is an access that the manual says
does not exist, so every command ends in a next state. -/
inductive Fault where
  deriving DecidableEq, Repr

/-- The reasons for which a step could be refused. -/
inductive Refusal where
  /-- A row of the opcode table without a meaning. Raised by no arm of `exec`; safe, since a refused command proves
  nothing about the part. -/
  | notModelled (mnemonic : String)
  deriving DecidableEq, Repr

/-! ## Reset values -/

/-- The straps with every pin at 0 (log entry 2). -/
def Straps.zero : Straps := { station := 0, rate := .low, source := .sample, twoOutlets := false }

/-- SP's record of a fitted outlet after hard reset with its lines reading open and absent (R106): one SETPOINT 0 has
been sent and its order timer runs. -/
def StageOutlet.afterReset : StageOutlet :=
  { ordered := 0, confirmed := 0, isConfirmed := false, orderTimer := .running, contactor := .isOpen, driveClosed := false,
    contactorTimer := false, pendingClose := false, feedbackClosed := false, plugPresent := false }

/-- SP's record of an outlet not fitted: drive released, record at 0, no order outstanding (R106, log entry 3). -/
def StageOutlet.absent : StageOutlet :=
  { StageOutlet.afterReset with isConfirmed := true, orderTimer := .stopped }

/-- MU's record after hard reset (R124). -/
def MeterOutlet.afterReset : MeterOutlet :=
  { windowOpen := false, residue := 0, powerSum := 0, sampleCount := 0, lastDraw := 0, overdraw := 0, silenceTimer := false,
    pulseAsserted := false, windowPulse := 0, windowSample := 0, disagree := 0 }

/-- SC's record after hard reset (R149), in the outlet state given. -/
def SessionOutlet.afterReset (st : OutletState) : SessionOutlet :=
  { state := st, requested := 0, session := none, awaitTimer := false, idleTimer := false, openCheck := false, step := .rampDown }

/-- The machine after a hard reset with every strap pin at 0 and every input line at rest (R199, log entry 2). -/
def State.reset : State :=
  { cf := { straps := Straps.zero, config := none, day := 0, second := 0, clockSet := false }
    li := { condition := .busy, recessive := 0, dominant := 0, activity := .quiet, haltSlot := none, curtailSlot := none,
            announceSlot := none, lastFault := .noFault, ackDriven := false }
    pv := { peers := [], curtail := [], ownCurtail := none, hold := 0, holdTimer := false, haltRecord := none }
    se := { state := .unconfigured, timer := 0, failed := 0, cap := 0, frameBuilt := false, frameClaim := 0, ackReported := false,
            ceiling := 0, claim := 0, prevClaim := 0, prevAcked := false, parity := false,
            figures := { budget := none, share := none, headroom := none }, origin := 100, tripInput := false, tripRepeat := 0,
            roundPhaseMs := 250 }
    outA := { sp := StageOutlet.afterReset, mu := MeterOutlet.afterReset, sc := SessionOutlet.afterReset .vacant }
    outB := { sp := StageOutlet.absent, mu := MeterOutlet.afterReset, sc := SessionOutlet.afterReset .outOfService }
    estop := false
    stageTx := [{ outlet := .a, value := 0 }]
    nextId := 1
    ts := { bank0 := { tariff := none, bound := 0 }, bank1 := { tariff := none, bound := 0 }, active := none }
    sq := { queue := [], reserved := 0 }
    pk := { receiver := .hunt, gapTimer := false, command := .empty, response := .empty, hold := false, edge := 0, mask := 0x3FF,
            restartInput := [] }
    pending := [] }

/-! ## The records of one outlet -/

/-- The records of outlet x. -/
def State.outlet (s : State) : Outlet → OutletRecord
  | .a => s.outA
  | .b => s.outB

/-- Replace the records of outlet x. -/
def State.setOutlet (s : State) : Outlet → OutletRecord → State
  | .a, o => { s with outA := o }
  | .b, o => { s with outB := o }

/-- Change SP's record of outlet x. -/
def State.modSp (s : State) (x : Outlet) (f : StageOutlet → StageOutlet) : State :=
  s.setOutlet x { s.outlet x with sp := f (s.outlet x).sp }

/-- Change MU's record of outlet x. -/
def State.modMu (s : State) (x : Outlet) (f : MeterOutlet → MeterOutlet) : State :=
  s.setOutlet x { s.outlet x with mu := f (s.outlet x).mu }

/-- Change SC's record of outlet x. -/
def State.modSc (s : State) (x : Outlet) (f : SessionOutlet → SessionOutlet) : State :=
  s.setOutlet x { s.outlet x with sc := f (s.outlet x).sc }

end Sys2Proof.Machine
end

