-- ==== Sys2Proof/Machine/Operands.lean ====
section
/-! DEFINITION. How the bytes of the two links are read and written: byte order, the CRC-16, the park-line frame (R4 to
R6), the command codes and statuses of the pedestal link (R185), and the data of CONFIGURE and LOAD_TARIFF. -/

namespace Sys2Proof.Machine

/-! ## Byte order and fields -/

/-- The number that bytes spell, most significant byte first (section 1.5 of the scope file). -/
def natOfBytes (bs : List Byte) : Nat := bs.foldl (fun acc b => acc * 256 + b.toNat) 0

/-- The low `width` bytes of a number, most significant byte first. -/
def bytesOf : Nat → Nat → List Byte
  | 0, _ => []
  | n + 1, v => BitVec.ofNat 8 (v / 256 ^ n) :: bytesOf n v

/-- The field of `len` bytes at byte position `pos` of the data. -/
def field (data : List Byte) (pos len : Nat) : Nat := natOfBytes ((data.drop pos).take len)

/-- A byte with bit i set where the i-th flag is. -/
def bitsByte (flags : List Bool) : Byte :=
  BitVec.ofNat 8 (flags.foldr (fun f acc => acc * 2 + f.toNat) 0)

/-! ## The CRC-16 of both links (R5) -/

/-- One covered bit (R5). -/
def crcBit (reg : BitVec 16) (bit : Bool) : BitVec 16 :=
  if reg.msb ^^ bit then (reg <<< 1) ^^^ 0x1021#16 else reg <<< 1

/-- One covered byte, most significant bit first (R5). -/
def crcByte (reg : BitVec 16) (b : Byte) : BitVec 16 :=
  [7, 6, 5, 4, 3, 2, 1, 0].foldl (fun r i => crcBit r (b.getLsbD i)) reg

/-- The check of the covered bytes (R5). -/
def crc16 (bs : List Byte) : BitVec 16 := bs.foldl crcByte 0xFFFF#16

/-- The two check bytes, high byte first (R5). -/
def checkBytes (bs : List Byte) : List Byte := bytesOf 2 (crc16 bs).toNat

/-! ## The cells of the park line (R2, R3) -/

/-- The level of the line in one cell (R1). -/
inductive Cell where
  | dominant
  | recessive
  deriving DecidableEq, Repr

/-- The cell of a data bit: 0 is dominant, 1 is recessive (R2). -/
def Cell.ofBit (bit : Bool) : Cell := if bit then .recessive else .dominant

/-- The ten cells of a byte: a dominant lead cell, the eight data cells, most significant bit first, a recessive tail cell
(R2). -/
def byteCells (b : Byte) : List Cell :=
  .dominant :: [7, 6, 5, 4, 3, 2, 1, 0].map (fun i => Cell.ofBit (b.getLsbD i)) ++ [.recessive]

/-- The cells of a frame's bytes, header to check: each lead cell follows the tail of the byte before (R2). -/
def frameCells (bytes : List Byte) : List Cell := bytes.flatMap byteCells

/-- The number of consecutive cells of a level that end the cells seen (R3). -/
def runOf (c : Cell) (cells : List Cell) : Nat := (cells.reverse.takeWhile fun d => d == c).length

/-- The two counts after the cells of a frame as far as they were seen (R3). -/
def LineInterface.afterCells (li : LineInterface) (cells : List Cell) : LineInterface :=
  { li with recessive := runOf .recessive cells, dominant := runOf .dominant cells }

/-- The cells of a frame on the line up to the one given, in which the level was not the one sent. -/
def cellsUntil (bytes : List Byte) (cell : Nat) (seen : Cell) : List Cell := (frameCells bytes).take cell ++ [seen]

/-- LI sends the level given in the cell given of a frame. -/
def sends (bytes : List Byte) (cell : Nat) (level : Cell) : Bool := (frameCells bytes)[cell]? == some level

/-! ## Park-line frames (R4) -/

/-- The kind code (R4). -/
def FrameKind.code : FrameKind → Nat
  | .halt => 0
  | .curtail => 1
  | .announce => 2

/-- The kind of a code; codes 3 to 7 are undefined (R4). -/
def FrameKind.ofCode : Nat → Option FrameKind
  | 0 => some .halt
  | 1 => some .curtail
  | 2 => some .announce
  | _ => none

/-- The payload length of the kind (R4). -/
def FrameKind.payloadLength : FrameKind → Nat
  | .halt => 2
  | .curtail => 1
  | .announce => 11

/-- The frame of a kind from a station: header, length, payload and check (R4, R5). -/
def parkFrame (kind : FrameKind) (station : Nat) (payload : List Byte) : List Byte :=
  let covered := BitVec.ofNat 8 (kind.code * 32 + station) :: BitVec.ofNat 8 payload.length :: payload
  covered ++ checkBytes covered

/-- The outcomes of R6's tests. -/
inductive FrameOutcome where
  /-- Tests 1 and 3, and a length above 16: discarded, not acked. -/
  | damaged
  /-- Test 2: an undefined kind. -/
  | strayKind
  /-- Test 4. -/
  | ownNumber
  /-- Test 5. -/
  | strayStation
  /-- Test 6. -/
  | accepted (kind : FrameKind) (station : Nat) (payload : List Byte)
  deriving DecidableEq, Repr

/-- Tests 2 to 6 of R6, on a frame whose check is good. -/
def evaluateChecked (own : Nat) (population : Option Nat) (header : Byte) (payload : List Byte) : FrameOutcome :=
  let station := header.toNat % 32
  match FrameKind.ofCode (header.toNat / 32) with
  | none => .strayKind
  | some kind =>
    if payload.length ≠ kind.payloadLength then .damaged
    else if station = own then .ownNumber
    else match population with
      | some n => if n ≤ station then .strayStation else .accepted kind station payload
      | none => .accepted kind station payload

/-- R6: the tests in their order on the bytes from header to check. A length above 16, and bytes that are not as many as
the length says, are a damaged frame. Without a configuration (`population` absent) test 5 is skipped. -/
def evaluateFrame (own : Nat) (population : Option Nat) (bytes : List Byte) : FrameOutcome :=
  match bytes with
  | header :: length :: rest =>
    let payload := rest.take length.toNat
    if Config.maxPayload < length.toNat then .damaged
    else if rest.length ≠ length.toNat + 2 then .damaged
    else if checkBytes (header :: length :: payload) ≠ rest.drop length.toNat then .damaged
    else evaluateChecked own population header payload
  | _ => .damaged

/-! ## Command codes and statuses (R185) -/

/-- The commands that R185 defines. -/
inductive LinkCommand where
  | configure
  | identify
  | setClock
  | restart
  | loadTariff
  | openSession
  | demand
  | stopSession
  | readSession
  | setCurtail
  | siteHalt
  | readView
  | readSettlement
  | releaseSettlement
  | readStatus
  | clearCauses
  | setMask
  deriving DecidableEq, Repr

/-- The code byte of a command (R185). -/
def LinkCommand.code : LinkCommand → Byte
  | .configure => 0x10
  | .identify => 0x11
  | .setClock => 0x12
  | .restart => 0x13
  | .loadTariff => 0x20
  | .openSession => 0x30
  | .demand => 0x31
  | .stopSession => 0x32
  | .readSession => 0x33
  | .setCurtail => 0x40
  | .siteHalt => 0x41
  | .readView => 0x42
  | .readSettlement => 0x50
  | .releaseSettlement => 0x51
  | .readStatus => 0x60
  | .clearCauses => 0x61
  | .setMask => 0x62

/-- Every command of R185, in the table's order. -/
def LinkCommand.all : List LinkCommand :=
  [.configure, .identify, .setClock, .restart, .loadTariff, .openSession, .demand, .stopSession, .readSession, .setCurtail,
   .siteHalt, .readView, .readSettlement, .releaseSettlement, .readStatus, .clearCauses, .setMask]

/-- The command that a code byte names; a code not in the table is undefined (R185). -/
def LinkCommand.ofCode (b : Byte) : Option LinkCommand := LinkCommand.all.find? (fun c => c.code == b)

/-- The statuses (R185). -/
inductive Status where
  | ok
  | badFrame
  | badArgument
  | notConfigured
  | alreadyConfigured
  | clockUnset
  | outletAbsent
  | state
  | noTariff
  | queueFull
  | bankBound
  | empty
  | mismatch
  | unknownCommand
  deriving DecidableEq, Repr

/-- The status byte (R185). -/
def Status.code : Status → Byte
  | .ok => 0x00
  | .badFrame => 0x01
  | .badArgument => 0x02
  | .notConfigured => 0x03
  | .alreadyConfigured => 0x04
  | .clockUnset => 0x05
  | .outletAbsent => 0x06
  | .state => 0x07
  | .noTariff => 0x08
  | .queueFull => 0x09
  | .bankBound => 0x0A
  | .empty => 0x0B
  | .mismatch => 0x0C
  | .unknownCommand => 0x0D

/-- The bytes of a response frame on the link (R179). -/
def Response.frame (r : Response) : List Byte :=
  let covered := BitVec.ofNat 8 (r.data.length + 2) :: r.code :: r.status :: r.data
  (0x7E : Byte) :: covered ++ checkBytes covered

/-! ## Straps (R193) -/

/-- The line-rate pins: 00 low, 10 high, 01 and 11 middle (R193). -/
def LineRate.ofPins (pins : BitVec 2) : LineRate :=
  if pins = 0 then .low else if pins = 2 then .high else .middle

/-- The straps as read from the pins (R193). -/
def Straps.ofPins (p : StrapPins) : Straps :=
  { station := p.station
    rate := LineRate.ofPins p.rate
    source := if p.source then .pulse else .sample
    twoOutlets := p.outlets }

/-- The cell time in µs (R1). -/
def LineRate.cellMicros : LineRate → Nat
  | .low => 16
  | .middle => 8
  | .high => 4

/-- The code of the line rate that IDENTIFY reports (R196). -/
def LineRate.code : LineRate → Nat
  | .low => 0
  | .middle => 1
  | .high => 2

/-! ## The data of CONFIGURE (R194) and LOAD_TARIFF (R152) -/

/-- The outlet that an outlet byte names: 0 for A, 1 for B. -/
def outletOf : Nat → Option Outlet
  | 0 => some .a
  | 1 => some .b
  | _ => none

/-- The fields of the 19 data bytes of CONFIGURE (R194). -/
def readConfiguration (data : List Byte) : Configuration :=
  { budget := field data 0 2, margin := field data 2 2, fallback := field data 4 2, population := field data 6 1,
    ramp := field data 7 2, rated := field data 9 2, ratingA := field data 11 2, ratingB := field data 13 2,
    tolerance := field data 15 2, pulseWeight := field data 17 1, tripSeconds := field data 18 1 }

/-- The ranges of R194's table, and M + F × N within B. Outlet B's rating is checked only when it is fitted. -/
abbrev Configuration.Valid (k : Configuration) (straps : Straps) : Prop :=
  100 ≤ k.budget ∧ k.fallback ≤ k.rated ∧ 2 ≤ k.population ∧ k.population ≤ 32 ∧ straps.station.toNat < k.population ∧
  1 ≤ k.ramp ∧ 1 ≤ k.rated ∧ 1 ≤ k.ratingA ∧ k.ratingA ≤ k.rated ∧
  (straps.twoOutlets = true → 1 ≤ k.ratingB ∧ k.ratingB ≤ k.rated) ∧
  (k.pulseWeight = 1 ∨ k.pulseWeight = 2 ∨ k.pulseWeight = 5 ∨ k.pulseWeight = 10) ∧ 1 ≤ k.tripSeconds ∧
  k.margin + k.fallback * k.population ≤ k.budget

/-- The rating of outlet x (R194). -/
def Configuration.rating (k : Configuration) : Outlet → Nat
  | .a => k.ratingA
  | .b => k.ratingB

/-- The n bands of LOAD_TARIFF's data from the position `pos` on (R152). -/
def readBands (data : List Byte) : Nat → Nat → List Band
  | 0, _ => []
  | n + 1, pos => { start := field data pos 2, price := field data (pos + 2) 2 } :: readBands data n (pos + 4)

/-- Each start minute is above the one before it (R152). -/
def startsRise : List Band → Bool
  | b :: c :: rest => decide (b.start < c.start) && startsRise (c :: rest)
  | _ => true

/-- The fields of LOAD_TARIFF's data (R152). -/
def readTariff (data : List Byte) : Tariff :=
  { id := field data 0 2, fee := field data 2 3, idleGrace := field data 5 1, idlePrice := field data 6 3,
    idleMax := field data 9 2, bands := readBands data (field data 11 1) 12 }

/-- The conditions of R152 on the data: none of them refuses it. -/
def tariffAccepted (data : List Byte) : Bool :=
  let n := field data 11 1
  let t := readTariff data
  decide (1 ≤ n ∧ n ≤ 6 ∧ data.length = 12 + 4 * n ∧ t.id ≠ 0 ∧ t.idleMax ≤ 1440) &&
  (t.bands.head?.any (fun b => b.start == 0)) && t.bands.all (fun b => decide (b.start ≤ 1439)) && startsRise t.bands

end Sys2Proof.Machine
end

