-- ==== Sys2Proof/Machine/Flags.lean ====
section
/-! DEFINITION. The attention causes (R186, R187) and the flags of a session record (R147, R170). -/

namespace Sys2Proof.Machine

/-- The nine edge causes (R186). -/
inductive Cause where
  | outletA
  | outletB
  | share
  | halt
  | curtail
  | line
  | clash
  | meter
  | linkOverrun
  deriving DecidableEq, Repr

/-- The place of an edge cause in the nine edge flags: its bit number in R186's table less 1. -/
def Cause.index : Cause → Nat
  | .outletA => 0
  | .outletB => 1
  | .share => 2
  | .halt => 3
  | .curtail => 4
  | .line => 5
  | .clash => 6
  | .meter => 7
  | .linkOverrun => 8

/-- The cause of an outlet's state changes (R126). -/
def Cause.ofOutlet : Outlet → Cause
  | .a => .outletA
  | .b => .outletB

/-- Raising an edge cause sets its flag, whatever the mask holds (R186). -/
def State.raise (s : State) (c : Cause) : State :=
  { s with pk := { s.pk with edge := s.pk.edge ||| BitVec.twoPow 9 c.index } }

/-- Whether an edge cause is pending. -/
def State.isPending (s : State) (c : Cause) : Bool := s.pk.edge.getLsbD c.index

/-- SETTLE_PENDING is asserted while the queue holds a record (R175). -/
def State.settlePending (s : State) : Bool := !s.sq.queue.isEmpty

/-- The pending set in the bit numbers of R186. -/
def State.pendingSet (s : State) : BitVec 10 :=
  (s.pk.edge.setWidth 10 <<< 1) ||| (if s.settlePending then 1#10 else 0#10)

/-- The ATTENTION output: some cause is both pending and enabled (R187). -/
def State.attention (s : State) : Bool := s.pendingSet &&& s.pk.mask != 0#10

/-- The bits of the session flags, bit 0 first (R170). -/
def SessionFlags.byte (f : SessionFlags) : Byte :=
  bitsByte [f.meterClamped, f.meterDisagree, f.capOverrun, f.idleClamped, f.clockStepped, f.reduced, f.halted, f.weldSuspect]

/-- No flag set (R128). -/
def SessionFlags.clear : SessionFlags :=
  { meterClamped := false, meterDisagree := false, capOverrun := false, idleClamped := false, clockStepped := false,
    reduced := false, halted := false, weldSuspect := false }

end Sys2Proof.Machine
end

