-- ==== Sys2Proof/Machine/View.lean ====
section
/-! DEFINITION. The peer view's tables (chapter 2): reading a payload into an entry, the entry's place, ageing, freshness,
reservation and the effective curtail level. -/

namespace Sys2Proof.Machine

/-! ## The peer table -/

/-- An entry is QUIET at ages 3 to 7 (R27). -/
def PeerEntry.quiet (e : PeerEntry) : Bool := decide (Config.freshAge < e.age)

/-- The reservation: the largest of ceiling, claim and draw (R27). -/
def PeerEntry.reservation (e : PeerEntry) : Nat := max e.ceiling (max e.claim e.draw)

/-- The entry that an ANNOUNCE payload from a station gives, at age 0 (R24, R25). -/
def PeerEntry.ofPayload (station : Nat) (payload : List Byte) : PeerEntry :=
  { station := station
    joining := (field payload 0 1).testBit 0
    halted := (field payload 0 1).testBit 1
    weight := min (field payload 1 1) 2
    demand := field payload 2 2
    ceiling := field payload 4 2
    claim := field payload 6 2
    draw := field payload 8 2
    parity := (field payload 10 1).testBit 0
    age := 0 }

/-- Put an entry into its place in the ascending order, over the station's entry if it has one (R25). -/
def insertPeer (e : PeerEntry) : List PeerEntry → List PeerEntry
  | [] => [e]
  | p :: ps =>
    if e.station < p.station then e :: p :: ps
    else if e.station = p.station then e :: ps
    else p :: insertPeer e ps

/-- Raise every age by 1 and remove the entries that reach the hold count (R26). -/
def agePeers (ps : List PeerEntry) : List PeerEntry :=
  (ps.map fun e => { e with age := e.age + 1 }).filter fun e => decide (e.age < Config.holdCount)

/-! ## The curtail list -/

/-- The level that a CURTAIL's level byte is read as (R29). -/
def readLevel (b : Nat) : Nat := min b 100

/-- Put a curtail entry into its place, over the station's entry if it has one (R29). -/
def insertCurtail (e : CurtailEntry) : List CurtailEntry → List CurtailEntry
  | [] => [e]
  | c :: cs =>
    if e.station < c.station then e :: c :: cs
    else if e.station = c.station then e :: cs
    else c :: insertCurtail e cs

/-- Raise every age by 1 and remove the entries that reach the hold count (R26). -/
def ageCurtail (cs : List CurtailEntry) : List CurtailEntry :=
  (cs.map fun e => { e with age := e.age + 1 }).filter fun e => decide (e.age < Config.holdCount)

/-- The lowest level in the curtail list, or 100 when it is empty (R31). -/
def PeerView.level (v : PeerView) : Nat :=
  (v.ownCurtail.toList ++ v.curtail.map CurtailEntry.level).foldr min 100

/-- The lowest station number whose entry holds the effective level, the own entry under the own number; 255 when the list
is empty (R37). -/
def PeerView.levelSource (v : PeerView) (own : Nat) : Nat :=
  let holders := (v.curtail.filter fun e => e.level == v.level).map CurtailEntry.station
  let ownHolder := if v.ownCurtail = some v.level then [own] else []
  if v.ownCurtail.isNone && v.curtail.isEmpty then 255 else (ownHolder ++ holders).foldr min 255

/-- The station is halted while the count is above 0 (R34). -/
def PeerView.isHalted (v : PeerView) : Bool := decide (0 < v.hold)

/-- The removals at the acceptance of CONFIGURE (R28). -/
def PeerView.restrict (v : PeerView) (population : Nat) : PeerView :=
  { v with peers := v.peers.filter fun e => decide (e.station < population)
           curtail := v.curtail.filter fun e => decide (e.station < population) }

/-- Replace the peer view, and raise CURTAIL when the effective level is another than before (R31). -/
def State.setView (s : State) (v : PeerView) : State :=
  let t := { s with pv := v }
  if v.level = s.pv.level then t else t.raise .curtail

end Sys2Proof.Machine
end

