-- ==== Sys2Proof/Machine/Ops.lean ====
section
/-! DEFINITION. The operations that several commands share: transmit slots, orders and contactors of the stage port, the
outlet states and settling of the session controller, and the halt, each written once from the rule it cites. Where a
rule says that one block hands something to another, the operation of the other block is called there. -/

namespace Sys2Proof.Machine

/-! ## Straps and clock -/

/-- The strapped station number as a number (R193). -/
def State.ownStation (s : State) : Nat := s.cf.straps.station.toNat

/-- Outlet A is always fitted, outlet B by the strap (R193). -/
def State.fitted (s : State) : Outlet → Bool
  | .a => true
  | .b => s.cf.straps.twoOutlets

/-- The clock's minute of day (R162, R197). -/
def State.minute (s : State) : Nat := s.cf.second / 60

/-- CONFIGURE has been accepted (R195). -/
def State.isConfigured (s : State) : Bool := s.cf.config.isSome

/-! ## Transmit slots (R9) -/

/-- The slot of a kind. -/
def LineInterface.slot (li : LineInterface) : FrameKind → Option (List Byte)
  | .halt => li.haltSlot
  | .curtail => li.curtailSlot
  | .announce => li.announceSlot

/-- Replace what the slot of a kind holds. -/
def LineInterface.setSlot (li : LineInterface) : FrameKind → Option (List Byte) → LineInterface
  | .halt, v => { li with haltSlot := v }
  | .curtail, v => { li with curtailSlot := v }
  | .announce, v => { li with announceSlot := v }

/-- Empty all three slots (R20, R22). -/
def LineInterface.emptySlots (li : LineInterface) : LineInterface :=
  { li with haltSlot := none, curtailSlot := none, announceSlot := none }

/-- A frame of the kind on the line goes on with its old bytes, and counts as replaced (R9). -/
def LineActivity.replace (a : LineActivity) (kind : FrameKind) : LineActivity :=
  match a with
  | .sending k bytes r => .sending k bytes (r || decide (k = kind))
  | .receiving => .receiving
  | .quiet => .quiet

/-- The share engine places a frame (R9). -/
def State.placeFrame (s : State) (kind : FrameKind) (bytes : List Byte) : State :=
  if s.se.state = .barred then s
  else { s with li := { s.li.setSlot kind (some bytes) with activity := s.li.activity.replace kind } }

/-- The CURTAIL frame with a level is built and placed (R81). -/
def State.placeCurtail (s : State) (level : Nat) : State :=
  s.placeFrame .curtail (parkFrame .curtail s.ownStation [BitVec.ofNat 8 level])

/-- The HALT frame with a duration and reason is built and placed (R85). -/
def State.placeHalt (s : State) (seconds reason : Nat) : State :=
  s.placeFrame .halt (parkFrame .halt s.ownStation [BitVec.ofNat 8 seconds, BitVec.ofNat 8 reason])

/-! ## Line faults (R18) -/

/-- LI raises LINE and records the fault that raised it (R18). -/
def State.lineFault (s : State) (f : LineFault) : State :=
  { s with li := { s.li with lastFault := f } }.raise .line

/-! ## Orders (R91, R92) -/

/-- The in-force ceiling (R91). -/
def StageOutlet.inForce (o : StageOutlet) : Nat :=
  if o.isConfirmed then o.confirmed else max o.confirmed o.ordered

/-- SP takes an order (R92): a value that differs is recorded and sent, and the order timer starts; an equal value changes
nothing. -/
def State.order (s : State) (x : Outlet) (value : Nat) : State :=
  if value = (s.outlet x).sp.ordered then s
  else
    { s.modSp x fun o => { o with ordered := value, isConfirmed := false, orderTimer := .running } with
      stageTx := s.stageTx ++ [{ outlet := x, value := value }] }

/-- The order timer once the order is confirmed (R93, R99): a timer that runs stops, and one that has expired on the order has
expired on it all the same (R105; DEDUCED: log entry 27). -/
def OrderTimer.onConfirmation : OrderTimer → OrderTimer
  | .running => .stopped
  | .stopped => .stopped
  | .expired => .expired

/-- SP's own steps when an open is confirmed (R99): the contactor is OPEN and its timer stopped, the confirmed ceiling is 0,
and an order of 0 is CONFIRMED with its timer stopped. -/
def StageOutlet.confirmOpen (o : StageOutlet) : StageOutlet :=
  { o with contactor := .isOpen, driveClosed := false, contactorTimer := false, confirmed := 0,
           isConfirmed := o.isConfirmed || decide (o.ordered = 0),
           orderTimer := if o.ordered = 0 then o.orderTimer.onConfirmation else o.orderTimer }

/-- The drive is released and the contactor timer starts again: OPEN_WAIT (R97, R103, R107). -/
def StageOutlet.release (o : StageOutlet) : StageOutlet :=
  { o with contactor := .openWait, driveClosed := false, contactorTimer := true }

/-- SP releases a closed drive without handing anything on: the steps of R103 and R107 at the contactor. A feedback that
already reads open confirms the open at once. -/
def StageOutlet.quietOpen (o : StageOutlet) : StageOutlet :=
  match o.contactor with
  | .closeWait => if o.feedbackClosed then o.release else o.release.confirmOpen
  | .closed => if o.feedbackClosed then o.release else o.release.confirmOpen
  | .openWait => { o with pendingClose := false }
  | .isOpen => o
  | .welded => o

/-- A WELDED contactor whose feedback reads open becomes OPEN (R104, R107). -/
def StageOutlet.unweld (o : StageOutlet) : StageOutlet :=
  if o.contactor = .welded ∧ o.feedbackClosed = false then o.confirmOpen else o

/-! ## Metering window (R108) -/

/-- The metering window opens (R108). -/
def MeterOutlet.openWindow (m : MeterOutlet) : MeterOutlet :=
  { m with windowOpen := true, residue := 0, overdraw := 0, windowPulse := 0, windowSample := 0, disagree := 0 }

/-- The metering window closes; the residue and the session's figures are discarded (R108, R120). -/
def MeterOutlet.closeWindow (m : MeterOutlet) : MeterOutlet :=
  { m with windowOpen := false, residue := 0, overdraw := 0, windowPulse := 0, windowSample := 0, disagree := 0 }

/-! ## Tariff banks (R155 to R157) -/

/-- The bank of a number. -/
def TariffStore.bank (t : TariffStore) : BankId → Bank
  | .bank0 => t.bank0
  | .bank1 => t.bank1

/-- Replace a bank. -/
def TariffStore.setBank (t : TariffStore) : BankId → Bank → TariffStore
  | .bank0, b => { t with bank0 := b }
  | .bank1, b => { t with bank1 := b }

/-- Bind a session to a bank (R155). -/
def TariffStore.bind (t : TariffStore) (i : BankId) : TariffStore :=
  t.setBank i { t.bank i with bound := (t.bank i).bound + 1 }

/-- Unbind a session from its bank (R156). -/
def TariffStore.unbind (t : TariffStore) (i : BankId) : TariffStore :=
  t.setBank i { t.bank i with bound := (t.bank i).bound - 1 }

/-- The index and price of the last band whose start is at or below the minute, searched from the band index `i` on with
the answer so far (R157). -/
def bandFrom (m : Nat) : List Band → Nat → Nat × Nat → Nat × Nat
  | [], _, found => found
  | b :: rest, i, found => bandFrom m rest (i + 1) (if b.start ≤ m then (i, b.price) else found)

/-- The band in force at a minute: its index and price per Wh (R157). -/
def Tariff.bandAt (t : Tariff) (m : Nat) : Nat × Nat := bandFrom m t.bands 0 (0, 0)

/-- The idle price of a bank; an EMPTY bank is never bound (R155), and is read as pricing nothing. -/
def Bank.idlePrice (b : Bank) : Nat := (b.tariff.map Tariff.idlePrice).getD 0

/-! ## Session records (R142, R160, R161) -/

/-- The fee plus the costs of the band lines, in micro-units. -/
def SessionRecord.feeAndEnergy (r : SessionRecord) : Nat := r.fee + (r.lines.map BandLine.cost).sum

/-- The total of a session in micro-units (R160). -/
def SessionRecord.total (r : SessionRecord) : Nat := r.feeAndEnergy + r.idleFee

/-- The settled amount in hundredths, halving up (R161). -/
def settledAmount (total : Nat) : Nat :=
  total / Config.microPerHundredth + (if Config.roundUpFrom ≤ total % Config.microPerHundredth then 1 else 0)

/-- Add a delivery to the band line of its band, which is created in its place if it is missing (R142). -/
def addToLine (band wh price : Nat) : List BandLine → List BandLine
  | [] => [{ band := band, wh := wh, cost := wh * price, price := price }]
  | l :: rest =>
    if band < l.band then { band := band, wh := wh, cost := wh * price, price := price } :: l :: rest
    else if band = l.band then { l with wh := l.wh + wh, cost := l.cost + wh * price } :: rest
    else l :: addToLine band wh price rest

/-- Add Wh at a band and price to the record (R142). -/
def SessionRecord.addEnergy (r : SessionRecord) (band wh price : Nat) : SessionRecord :=
  { r with lines := addToLine band wh price r.lines, billedWh := r.billedWh + wh }

/-- The end-reason codes that the part itself gives (R137). -/
def EndReason.noVehicle : Nat := 128
/-- R137. -/
def EndReason.unplugged : Nat := 129
/-- R137. -/
def EndReason.energyCap : Nat := 130
/-- R137. -/
def EndReason.costCap : Nat := 131
/-- R137. -/
def EndReason.energyLimit : Nat := 132
/-- R137. -/
def EndReason.overdraw : Nat := 133
/-- R137. -/
def EndReason.stageFault : Nat := 134
/-- R137. -/
def EndReason.stageLost : Nat := 135
/-- R137. -/
def EndReason.contactorFault : Nat := 136
/-- R137. -/
def EndReason.contactorDrop : Nat := 137
/-- R137. -/
def EndReason.emergencyStop : Nat := 138
/-- R137. -/
def EndReason.numberClash : Nat := 139
/-- R137. -/
def EndReason.restart : Nat := 140

/-- The cap that the record has reached, by its end reason; the energy cap goes first (R143). -/
def SessionRecord.capReached (r : SessionRecord) : Option Nat :=
  if 0 < r.energyCap ∧ r.energyCap ≤ r.billedWh then some EndReason.energyCap
  else if 0 < r.costCap ∧ r.costCap * Config.microPerHundredth ≤ r.feeAndEnergy then some EndReason.costCap
  else none

/-! ## Outlet states (R126) -/

/-- Change the live session record, if one is open. -/
def State.modSession (s : State) (x : Outlet) (f : SessionRecord → SessionRecord) : State :=
  s.modSc x fun c => { c with session := c.session.map f }

/-- Change the flags of the live session record (R147). -/
def State.modFlags (s : State) (x : Outlet) (f : SessionFlags → SessionFlags) : State :=
  s.modSession x fun r => { r with flags := f r.flags }

/-- Fix the end reason of the outlet's session, or replace it (R137). -/
def State.endWith (s : State) (x : Outlet) (reason : Nat) : State :=
  s.modSession x fun r => { r with endReason := some reason }

/-- Change the outlet state: the outlet's cause is raised (R126), and the silence timer runs in ENERGISING (R121). A state
that is already held is no change. -/
def State.enter (s : State) (x : Outlet) (st : OutletState) : State :=
  if (s.outlet x).sc.state = st then s
  else ((s.modSc x fun c => { c with state := st }).modMu x fun m => { m with silenceTimer := decide (st = .energising) }).raise
    (Cause.ofOutlet x)

/-! ## Settling (R146, R156, R169) -/

/-- The record completed at the settling event: the end time and CAP_OVERRUN (R146). -/
def SessionRecord.complete (r : SessionRecord) (day second : Nat) : SessionRecord :=
  let above := decide (0 < r.costCap ∧ r.costCap * Config.microPerHundredth < r.total)
  { r with endTime := some (day, second), flags := { r.flags with capOverrun := r.flags.capOverrun || above } }

/-- SQ appends a completed record with its amount, in the place reserved by count (R169). -/
def SettlementQueue.append (q : SettlementQueue) (r : SessionRecord) : SettlementQueue :=
  { queue := q.queue ++ [{ record := r, amount := settledAmount r.total }], reserved := q.reserved - 1 }

/-- SC's record once the session is settled (R146): timers stopped, requested power 0, live record discarded, markers
cleared. -/
def SessionOutlet.afterSettling (c : SessionOutlet) : SessionOutlet :=
  { c with requested := 0, session := none, awaitTimer := false, idleTimer := false, openCheck := false, step := .rampDown }

/-- The steps of settling up to the outlet's next state (R146). -/
def State.settleRecord (s : State) (x : Outlet) : State :=
  let t := (s.modMu x MeterOutlet.closeWindow).modSc x SessionOutlet.afterSettling
  match (s.outlet x).sc.session with
  | none => t
  | some r => { t with ts := s.ts.unbind r.bank, sq := s.sq.append (r.complete s.cf.day s.cf.second) }

/-- Settle, and go to VACANT, or to OUT_OF_SERVICE while the emergency stop is asserted (R146). -/
def State.settle (s : State) (x : Outlet) : State :=
  (s.settleRecord x).enter x (if s.estop then .outOfService else .vacant)

/-! ## The contactor opened, and the way out of CLOSING (R138, R139, R145) -/

/-- The outcome of CLOSING once the contactor is opened: IDLE when the plug is present, the bound bank's idle price is above 0
and the session ended neither by UNPLUGGED nor by NUMBER_CLASH, else settlement (R138, R139). -/
def State.leaveClosing (s : State) (x : Outlet) : State :=
  match (s.outlet x).sc.session with
  | none => s.settle x
  | some r =>
    if (s.outlet x).sp.plugPresent ∧ 0 < (s.ts.bank r.bank).idlePrice ∧ r.endReason ≠ some EndReason.unplugged ∧
        r.endReason ≠ some EndReason.numberClash then
      (s.enter x .idle).modSc x fun c => { c with idleTimer := true }
    else s.settle x

/-- SP hands SC the contactor opened (R126): it is used at the open step of CLOSING, for an open check pending (R145), and
for an outlet held OUT_OF_SERVICE until its open is confirmed (R104, R150). -/
def State.contactorOpened (s : State) (x : Outlet) : State :=
  match (s.outlet x).sc.state with
  | .closing => if (s.outlet x).sc.step = .openStep then s.leaveClosing x else s
  | .outOfService =>
    if (s.outlet x).sc.openCheck then s.settle x
    else if s.estop then s else s.enter x .vacant
  | .vacant => s
  | .awaitPlug => s
  | .connecting => s
  | .energising => s
  | .suspended => s
  | .idle => s

/-- SC commands an open (R97), with its order of 0. -/
def State.commandOpen (s : State) (x : Outlet) : State :=
  let t := s.order x 0
  match (t.outlet x).sp.contactor with
  | .closeWait => if (t.outlet x).sp.feedbackClosed then t.modSp x StageOutlet.release
      else (t.modSp x fun o => o.release.confirmOpen).contactorOpened x
  | .closed => if (t.outlet x).sp.feedbackClosed then t.modSp x StageOutlet.release
      else (t.modSp x fun o => o.release.confirmOpen).contactorOpened x
  | .openWait => t.modSp x fun o => { o with pendingClose := false }
  | .isOpen => (t.modSp x StageOutlet.confirmOpen).contactorOpened x
  | .welded => t

/-- SC commands a close (R96). -/
def State.commandClose (s : State) (x : Outlet) : State :=
  match (s.outlet x).sp.contactor with
  | .isOpen => s.modSp x fun o => { o with contactor := .closeWait, driveClosed := true, contactorTimer := true }
  | .openWait => s.modSp x fun o => { o with pendingClose := true }
  | .closeWait => s
  | .closed => s
  | .welded => s

/-- The open step of CLOSING (R138). -/
def State.openStep (s : State) (x : Outlet) : State :=
  (s.modSc x fun c => { c with step := .openStep }).commandOpen x

/-- The outlet is in CLOSING and has not come to its open step. -/
def State.inRampDown (s : State) (x : Outlet) : Bool :=
  decide ((s.outlet x).sc.state = .closing ∧ (s.outlet x).sc.step = .rampDown)

/-- What ends a ramp-down takes the open step; in any other state or step nothing happens (R126, R138, R140). -/
def State.endRampDown (s : State) (x : Outlet) : State :=
  if s.inRampDown x then s.openStep x else s

/-- SP confirms an open outside a command (R99): its own steps, the contactor opened, the confirmation when the order of 0
became CONFIRMED, and the close that was pending. -/
def State.openConfirmed (s : State) (x : Outlet) : State :=
  let o := (s.outlet x).sp
  let t := (s.modSp x fun o => { o.confirmOpen with pendingClose := false }).contactorOpened x
  let u := if o.isConfirmed = false ∧ o.ordered = 0 then t.endRampDown x else t
  if o.pendingClose then u.commandClose x else u

/-! ## Stopping (R138, R139) -/

/-- An ordinary stop: CLOSING with its ramp-down, which ends at once when the order of 0 is CONFIRMED or its timer has
expired (R138). -/
def State.ordinaryStop (s : State) (x : Outlet) (reason : Nat) : State :=
  let t := ((((s.endWith x reason).modSc x fun c => { c with step := .rampDown }).enter x .closing).order x 0).modSp x
    fun o => { o with pendingClose := false }
  if (t.outlet x).sp.isConfirmed ∨ (t.outlet x).sp.orderTimer = .expired then t.openStep x else t

/-- A quick stop: CLOSING with its open at once (R139). -/
def State.quickStop (s : State) (x : Outlet) (reason : Nat) : State :=
  (((s.endWith x reason).enter x .closing).order x 0).openStep x

/-- End a session and settle it at once (R130, R136, R139). -/
def State.endAndSettle (s : State) (x : Outlet) (reason : Nat) : State := (s.endWith x reason).settle x

/-- The outlet is in CONNECTING, ENERGISING or SUSPENDED. -/
def OutletState.running : OutletState → Bool
  | .connecting => true
  | .energising => true
  | .suspended => true
  | .vacant => false
  | .awaitPlug => false
  | .closing => false
  | .idle => false
  | .outOfService => false

/-- Entry to CONNECTING: the cap test, then the close (R131). -/
def State.connect (s : State) (x : Outlet) : State :=
  match (s.outlet x).sc.session.bind SessionRecord.capReached with
  | some reason => s.ordinaryStop x reason
  | none => (s.enter x .connecting).commandClose x

/-- SP hands SC WELD_SUSPECT (R141): an open session is settled with the flag, ended with CONTACTOR_FAULT when it had not
ended, and the outlet is OUT_OF_SERVICE. An exit from ENERGISING gives its order of 0 (R132). -/
def State.weldSuspect (s : State) (x : Outlet) : State :=
  let t := match (s.outlet x).sc.state with
    | .awaitPlug => s.endWith x EndReason.contactorFault
    | .connecting => s.endWith x EndReason.contactorFault
    | .energising => (s.endWith x EndReason.contactorFault).order x 0
    | .suspended => s.endWith x EndReason.contactorFault
    | .closing => s
    | .idle => s
    | .outOfService => s
    | .vacant => s
  ((t.modFlags x fun f => { f with weldSuspect := true }).settleRecord x).enter x .outOfService

/-- The contactor is suspected of having welded (R99, R100). -/
def State.weld (s : State) (x : Outlet) : State :=
  (s.modSp x fun o => { o with contactor := .welded, driveClosed := false, contactorTimer := false,
                               pendingClose := false }).weldSuspect x

/-! ## Energy (R142, R143) -/

/-- The caps tested after a delivery (R143). -/
def State.testCaps (s : State) (x : Outlet) : State :=
  match (s.outlet x).sc.session.bind SessionRecord.capReached with
  | some reason => if (s.outlet x).sc.state.running then s.ordinaryStop x reason else s
  | none => s

/-- MU hands SC an energy delivery (R142): the Wh up to the energy limit go to the band line of the minute and to the billed
Wh; the limit reached ends a running session, and the caps are tested after. A delivery that finds the billed Wh at the limit
adds nothing and makes no line (log entry 13). -/
def State.deliver (s : State) (x : Outlet) (wh minute : Nat) : State :=
  match (s.outlet x).sc.session with
  | none => s
  | some r =>
    let added := min wh (Config.energyLimit - r.billedWh)
    if added = 0 then s.testCaps x
    else
      let band := (((s.ts.bank r.bank).tariff.map fun t => t.bandAt minute).getD (0, 0))
      let t := s.modSession x fun r => r.addEnergy band.1 added band.2
      if Config.energyLimit ≤ r.billedWh + added ∧ (s.outlet x).sc.state.running then t.ordinaryStop x EndReason.energyLimit
      else t.testCaps x

/-! ## Halts (R32 to R35, R78, R134, R135) -/

/-- The share engine's forcing: C and K are 0 (R58). -/
def State.zeroCeiling (s : State) : State := { s with se := { s.se with ceiling := 0, claim := 0 } }

/-- SE hands SP an order of 0 for each outlet whose order is above 0, outlet A first (R60, R75, R78). -/
def State.orderZeroBoth (s : State) : State := (s.order .a 0).order .b 0

/-- The beginning of a halt at one outlet (R134). -/
def State.suspend (s : State) (x : Outlet) : State :=
  match (s.outlet x).sc.state with
  | .connecting => ((s.enter x .suspended).modFlags x fun f => { f with halted := true }).commandOpen x
  | .energising => ((s.enter x .suspended).modFlags x fun f => { f with halted := true }).commandOpen x
  | .suspended => s
  | .awaitPlug => s
  | .closing => s
  | .idle => s
  | .vacant => s
  | .outOfService => s

/-- A halt begins (R34): HALT is raised, SE forces C and K to 0 and orders 0 (R78), SC suspends its outlets (R134). -/
def State.haltBegins (s : State) : State :=
  (((((s.raise .halt).zeroCeiling).orderZeroBoth).suspend .a).suspend .b)

/-- PV takes a HALT, accepted or own (R32, R34, R35). -/
def State.takeHalt (s : State) (source seconds reason : Nat) : State :=
  let v := { s.pv with haltRecord := some { source := source, reason := reason } }
  if seconds < s.pv.hold then { s with pv := v }
  else
    let t := { s with pv := { v with hold := seconds, holdTimer := true } }
    if s.pv.hold = 0 then t.haltBegins else t

/-- The end of a halt at one outlet (R135). -/
def State.resume (s : State) (x : Outlet) : State :=
  if (s.outlet x).sc.state = .suspended ∧ (s.outlet x).sp.plugPresent then s.connect x else s

/-- A halt ends (R33). -/
def State.haltEnds (s : State) : State := (s.resume .a).resume .b

/-- The station originates a halt: its frame is placed and PV takes the own halt (R82, R84, R85). -/
def State.originateHalt (s : State) (seconds reason : Nat) : State :=
  (s.placeHalt seconds reason).takeHalt s.ownStation seconds reason

/-- The site-trip input is taken as going from released to asserted, with CONFIGURE accepted (R82). -/
def State.tripBegins (s : State) (k : Configuration) : State :=
  let t := s.originateHalt k.tripSeconds 1
  { t with se := { t.se with tripRepeat := 0 } }

/-- At CONFIGURE and RESTART an asserted input is taken as newly asserted (R82, R88). -/
def State.retrip (s : State) : State :=
  match s.cf.config with
  | some k => if s.se.tripInput then s.tripBegins k else s
  | none => s

/-! ## Number clash (R19, R75, R139) -/

/-- The clash at one outlet (R139). -/
def State.clashOutlet (s : State) (x : Outlet) : State :=
  match (s.outlet x).sc.state with
  | .connecting => s.quickStop x EndReason.numberClash
  | .energising => s.quickStop x EndReason.numberClash
  | .suspended => s.quickStop x EndReason.numberClash
  | .closing => (s.endWith x EndReason.numberClash).endRampDown x
  | .awaitPlug => s.endAndSettle x EndReason.numberClash
  | .idle => s.endAndSettle x EndReason.numberClash
  | .vacant => s
  | .outOfService => s

/-- A number clash: LI raises CLASH, releases the line and empties its slots (R19, R20), SE enters BARRED (R75), and SC
ends every open session (R139). -/
def State.clash (s : State) : State :=
  let t := { s with li := { s.li.emptySlots with activity := .quiet } }.raise .clash
  let u := { t with se := { t.se with state := .barred, ceiling := 0, claim := 0, timer := 0, failed := 0 } }
  (((u.orderZeroBoth).raise .share).clashOutlet .a).clashOutlet .b

end Sys2Proof.Machine
end

