-- ==== Sys2Proof/Machine/Reports.lean ====
section
/-! DEFINITION. The bytes that the reading commands return: the record layout (R170), READ_VIEW (R37) and READ_STATUS
(R190). Multi-byte fields are sent most significant byte first. -/

namespace Sys2Proof.Machine

/-! ## Codes -/

/-- The outlet state codes (R126). -/
def OutletState.code : OutletState → Nat
  | .vacant => 0
  | .awaitPlug => 1
  | .connecting => 2
  | .energising => 3
  | .suspended => 4
  | .closing => 5
  | .idle => 6
  | .outOfService => 7

/-- The contactor state codes (R190). -/
def Contactor.code : Contactor → Nat
  | .isOpen => 0
  | .closeWait => 1
  | .closed => 2
  | .openWait => 3
  | .welded => 4

/-- The share state codes (R190). -/
def ShareState.code : ShareState → Nat
  | .unconfigured => 0
  | .joining => 1
  | .sharing => 2
  | .isolated => 3
  | .barred => 4

/-- The line condition codes (R190). -/
def LineCondition.code : LineCondition → Nat
  | .idle => 0
  | .busy => 1
  | .stuck => 2

/-- The line fault codes (R190). -/
def LineFault.code : LineFault → Nat
  | .noFault => 0
  | .txFault => 1
  | .lineStuck => 2
  | .strayStation => 3

/-- The active-bank marker's codes (R190). -/
def markerCode : Option BankId → Nat
  | none => 0
  | some .bank0 => 1
  | some .bank1 => 2

/-! ## A session record (R170) -/

/-- One band line: index, Wh and price (R170). -/
def BandLine.bytes (l : BandLine) : List Byte := bytesOf 1 l.band ++ bytesOf 3 l.wh ++ bytesOf 2 l.price

/-- A record with its amount in the layout of R170; an absent end or end reason is zeros. -/
def SessionRecord.bytes (r : SessionRecord) (amount : Nat) : List Byte :=
  let endTime := r.endTime.getD (0, 0)
  bytesOf 2 r.id ++
  [bitsByte [decide (r.outlet = .b), decide (r.bank = .bank1), r.endReason.isSome, r.endTime.isSome]] ++
  bytesOf 1 (r.endReason.getD 0) ++ [r.flags.byte] ++ r.auth ++ bytesOf 2 r.tariffId ++
  bytesOf 2 r.startDay ++ bytesOf 3 r.startSecond ++ bytesOf 2 endTime.1 ++ bytesOf 3 endTime.2 ++
  bytesOf 3 r.billedWh ++ bytesOf 3 r.energyCap ++ bytesOf 4 r.costCap ++ bytesOf 3 r.fee ++
  bytesOf 2 r.idleMinutes ++ bytesOf 2 r.billedIdle ++ bytesOf 5 r.idleFee ++ bytesOf 3 amount ++
  bytesOf 1 r.lines.length ++ (r.lines.map BandLine.bytes).flatten

/-! ## READ_VIEW (R37) -/

/-- One peer entry of the response (R37). -/
def PeerEntry.bytes (e : PeerEntry) : List Byte :=
  bytesOf 1 e.station ++ [bitsByte [e.joining, e.halted, e.parity, e.quiet]] ++ bytesOf 1 e.age ++ bytesOf 1 e.weight ++
  bytesOf 2 e.demand ++ bytesOf 2 e.ceiling ++ bytesOf 2 e.claim ++ bytesOf 2 e.draw

/-- The summary and up to 7 entries from the first station number on (R37). -/
def PeerView.bytes (v : PeerView) (own first : Nat) : List Byte :=
  let shown := (v.peers.filter fun e => decide (first ≤ e.station)).take Config.viewEntries
  bytesOf 1 v.level ++ bytesOf 1 (v.levelSource own) ++ bytesOf 1 v.hold ++
  bytesOf 1 ((v.haltRecord.map HaltRecord.source).getD 255) ++ bytesOf 1 ((v.haltRecord.map HaltRecord.reason).getD 0) ++
  bytesOf 1 v.peers.length ++ bytesOf 1 shown.length ++ (shown.map PeerEntry.bytes).flatten

/-! ## READ_STATUS (R190) -/

/-- The 39 bytes of the station part (R190). -/
def State.stationBytes (s : State) : List Byte :=
  let f := s.se.figures
  bytesOf 2 s.pendingSet.toNat ++ bytesOf 2 s.pk.mask.toNat ++
  bytesOf 1 s.se.state.code ++ bytesOf 1 s.se.timer ++ bytesOf 1 s.se.failed ++ bytesOf 2 s.se.cap ++ bytesOf 1 s.se.origin ++
  [bitsByte [s.se.tripInput, s.estop, s.pv.isHalted, s.isConfigured, s.cf.clockSet]] ++
  bytesOf 2 s.se.ceiling ++ bytesOf 2 s.se.claim ++
  [bitsByte [f.budget.isSome, f.share.isSome, f.headroom.isSome]] ++
  bytesOf 2 (f.budget.getD 0) ++ bytesOf 2 (f.share.getD 0) ++ bytesOf 2 (f.headroom.getD 0) ++
  bytesOf 1 (s.li.condition.code + 4 * s.li.lastFault.code) ++
  bytesOf 1 ((s.pv.haltRecord.map HaltRecord.reason).getD 0) ++ bytesOf 1 s.pv.hold ++
  bytesOf 1 (markerCode s.ts.active + 4 * s.ts.bank0.tariff.isSome.toNat + 8 * s.ts.bank1.tariff.isSome.toNat +
    16 * s.ts.bank0.bound + 64 * s.ts.bank1.bound) ++
  bytesOf 2 ((s.ts.bank0.tariff.map Tariff.id).getD 0) ++ bytesOf 2 ((s.ts.bank1.tariff.map Tariff.id).getD 0) ++
  bytesOf 1 s.sq.queue.length ++ bytesOf 1 s.sq.reserved ++
  bytesOf 2 ((s.sq.queue.head?.map fun r => r.record.id).getD 0) ++
  bytesOf 2 s.cf.day ++ bytesOf 3 s.cf.second

/-- The 21 bytes of a fitted outlet (R190). -/
def State.fittedBytes (s : State) (x : Outlet) : List Byte :=
  let sp := (s.outlet x).sp
  let mu := (s.outlet x).mu
  let pulse := decide (s.cf.straps.source = .pulse)
  bytesOf 1 (s.outlet x).sc.state.code ++
  [bitsByte [true, sp.isConfirmed, decide (sp.orderTimer = .expired), sp.driveClosed, sp.feedbackClosed, sp.plugPresent,
             sp.pendingClose, mu.windowOpen]] ++
  bytesOf 1 sp.contactor.code ++ bytesOf 2 sp.ordered ++ bytesOf 2 sp.confirmed ++ bytesOf 2 sp.inForce ++
  bytesOf 4 mu.residue ++ bytesOf 2 mu.lastDraw ++ bytesOf 1 mu.overdraw ++
  bytesOf 1 (mu.silenceTimer.toNat + (if pulse then 2 * mu.pulseAsserted.toNat + 4 * mu.disagree else 0)) ++
  bytesOf 2 (if pulse then mu.windowPulse else 0) ++
  bytesOf 2 (if pulse then min Config.field16Max mu.windowSample else 0)

/-- The 21 bytes of an outlet; one not fitted is outlet state 7 and zeros (R190). -/
def State.outletBytes (s : State) (x : Outlet) : List Byte :=
  if s.fitted x then s.fittedBytes x else bytesOf 1 OutletState.outOfService.code ++ bytesOf 20 0

/-- The 81 data bytes of READ_STATUS (R190). -/
def State.statusBytes (s : State) : List Byte := s.stationBytes ++ s.outletBytes .a ++ s.outletBytes .b

end Sys2Proof.Machine
end

