-- ==== Sys2Proof/Machine/Receiver.lean ====
section
/-! DEFINITION. The receiver of the pedestal link (R179 to R181), and what the link brings while a service restart is being done
(R192). -/

namespace Sys2Proof.Machine

/-! ## Frames (R179, R181) -/

/-- A frame finds a command waiting or a response HELD (R181, first case). -/
def State.linkBlocked (s : State) : Bool :=
  match s.pk.command, s.pk.response with
  | .empty, .empty => false
  | .empty, .sending _ => false
  | .empty, .held _ => true
  | .command _ _, _ => true
  | .badFrame _, _ => true

/-- What falls due at the end of a complete frame, from the length byte and the bytes kept after it (R179, R181): its command, or
with a check that is not good the BAD_FRAME answer that echoes its code. -/
def frameOutcome (length : Byte) (kept : List Byte) : CommandBuffer :=
  let covered := kept.take length.toNat
  if checkBytes (length :: covered) = kept.drop length.toNat then .command (covered.headD 0) covered.tail
  else .badFrame (covered.headD 0)

/-- What falls due cannot be taken at once: it is discarded with LINK_OVERRUN while a command waits or a response is HELD, and else
it waits in the command buffer (R181, R182). -/
def State.letWait (s : State) (due : CommandBuffer) : State :=
  if s.linkBlocked then s.raise .linkOverrun else { s with pk := { s.pk with command := due } }

/-! ## The receiver (R180) -/

/-- A length byte of 0 or above 96 (R180). -/
def badLength (b : Byte) : Bool := decide (b.toNat = 0 ∨ Config.maxLength < b.toNat)

/-- The receiver after a byte, and what falls due at the byte (R180, R181): nothing (`empty`), a frame complete in BODY, or the
BAD_FRAME answer with code 0x00 to a bad length byte. -/
def Receiver.afterByte (r : Receiver) (b : Byte) : Receiver × CommandBuffer :=
  match r with
  | .hunt => (if b = 0x7E then .length else .hunt, .empty)
  | .length => if badLength b then (.skip, .badFrame 0) else (.body b [], .empty)
  | .body count kept =>
    let now := kept ++ [b]
    if count.toNat + 2 ≤ now.length then (.hunt, frameOutcome count now) else (.body count now, .empty)
  | .skip => (.skip, .empty)

/-- The receiver after a byte with a stop-bit error (R180): a partial frame is discarded and the receiver goes to SKIP; in HUNT and
SKIP the byte is discarded. -/
def Receiver.afterStopBitError (r : Receiver) : Receiver :=
  match r with
  | .hunt => .hunt
  | .length => .skip
  | .body _ _ => .skip
  | .skip => .skip

/-- The receiver goes to a state, and the gap timer runs from this byte on. -/
def State.receiverTo (s : State) (r : Receiver) : State := { s with pk := { s.pk with receiver := r, gapTimer := true } }

/-- A gap (R180): a partial frame is discarded, SKIP ends, and the receiver hunts. -/
def State.linkGap (s : State) : State := { s with pk := { s.pk with receiver := .hunt, gapTimer := false } }

/-! ## The link during a service restart (R192) -/

/-- What the link brings while the work of a restart is done: the receiver goes on, and what falls due waits for the RESTART response
(R192). -/
def State.hearInRestart (s : State) (i : LinkInput) : State :=
  match i with
  | .byte b =>
    let t := s.receiverTo (s.pk.receiver.afterByte b).1
    match (s.pk.receiver.afterByte b).2 with
    | .empty => t
    | .command code data => t.letWait (.command code data)
    | .badFrame code => t.letWait (.badFrame code)
  | .stopBitError => s.receiverTo s.pk.receiver.afterStopBitError
  | .gap => s.linkGap

/-- All that the link brings during the restart's work, in order (R192). A LINK_OVERRUN that it raises comes after the restart's
clearing of the causes, and is kept (log entry 28). -/
def State.hearAllInRestart (s : State) : State :=
  let t := s.pk.restartInput.foldl State.hearInRestart s
  { t with pk := { t.pk with restartInput := [] } }

end Sys2Proof.Machine
end

