-- ==== Sys2Proof/Machine/Owners.lean ====
section
/-! DEFINITION. What the owning block of each command of R185 does when PK hands it the command: the checks in their order,
the effect, and the status and data of the response (R182). -/

namespace Sys2Proof.Machine

/-- What an owner gives PK: the state after its work, the status and the data of the response. -/
structure Reply where
  state : State
  status : Status
  data : List Byte

/-- A refusal changes nothing and carries no data. -/
def State.refuse (s : State) (st : Status) : Reply := { state := s, status := st, data := [] }

/-- An accepted command without response data. -/
def State.accept (s : State) : Reply := { state := s, status := .ok, data := [] }

/-! ## Configuration and clock (R194 to R198) -/

/-- The share engine at the acceptance of CONFIGURE: UNCONFIGURED enters JOINING with cap 0 and raises SHARE, BARRED stays
(R70, R195). -/
def State.joinAtConfigure (s : State) : State :=
  if s.se.state = .unconfigured then
    { s with se := { s.se with state := .joining, cap := 0, timer := 0 } }.raise .share
  else s

/-- The acceptance of CONFIGURE (R195): PV's removals (R28), SE's entry to JOINING (R70), an asserted site-trip input taken
as newly asserted (R82). -/
def State.acceptConfiguration (s : State) (k : Configuration) : State :=
  let t := { s with cf := { s.cf with config := some k } }
  ((t.setView (t.pv.restrict k.population)).joinAtConfigure).retrip

/-- CONFIGURE (R194). -/
def configureCommand (data : List Byte) (s : State) : Reply :=
  let k := readConfiguration data
  if s.isConfigured then s.refuse .alreadyConfigured
  else if data.length = 19 ∧ k.Valid s.cf.straps then (s.acceptConfiguration k).accept
  else s.refuse .badArgument

/-- IDENTIFY (R196). -/
def identifyCommand (data : List Byte) (s : State) : Reply :=
  if data ≠ [] then s.refuse .badArgument
  else
    { state := s, status := .ok
      data := bytesOf 2 Config.partCode ++ bytesOf 1 Config.revision ++ bytesOf 1 s.ownStation ++
        bytesOf 1 (s.cf.straps.rate.code + (if s.cf.straps.source = .pulse then 4 else 0) +
          (if s.cf.straps.twoOutlets then 8 else 0)) }

/-- The open sessions take CLOCK_STEPPED (R163). -/
def State.stepClock (s : State) (x : Outlet) : State := s.modFlags x fun f => { f with clockStepped := true }

/-- SET_CLOCK (R198). -/
def setClockCommand (data : List Byte) (s : State) : Reply :=
  if data.length ≠ 5 ∨ Config.daySeconds ≤ field data 2 3 then s.refuse .badArgument
  else
    let t := { s with cf := { s.cf with day := field data 0 2, second := field data 2 3, clockSet := true } }
    ((t.stepClock .a).stepClock .b).accept

/-! ## The service restart (R200) -/

/-- LI at a restart (R21, R22). -/
def LineInterface.restart (li : LineInterface) : LineInterface :=
  let t := { li.emptySlots with activity := .quiet, lastFault := .noFault }
  if li.condition = .stuck then t else { t with condition := .busy, recessive := 0, dominant := 0 }

/-- SE at a restart (R65, R88). -/
def ShareEngine.restart (e : ShareEngine) : ShareEngine :=
  let t := { e with timer := 0, failed := 0, frameBuilt := false, ackReported := false, origin := 100, ceiling := 0, claim := 0,
                    prevClaim := 0, prevAcked := false, figures := { budget := none, share := none, headroom := none } }
  match e.state with
  | .joining => { t with state := .joining, cap := 0 }
  | .sharing => { t with state := .joining, cap := 0 }
  | .isolated => { t with state := .joining, cap := 0 }
  | .unconfigured => t
  | .barred => t

/-- SP at a restart, at one outlet (R107): the order of 0, the contactor opened at once, the pending close cleared, a WELDED
contactor with an open feedback made OPEN. -/
def State.restartStage (s : State) (x : Outlet) : State :=
  if s.fitted x then (s.order x 0).modSp x fun o => { o.quietOpen.unweld with pendingClose := false } else s

/-- SC and MU at a restart, at one outlet (R125, R150): an open session is ended with RESTART and settled, then the outlet
state follows the contactor. -/
def State.restartOutlet (s : State) (x : Outlet) : State :=
  if s.fitted x then
    let t := (s.endWith x EndReason.restart).settleRecord x
    let st := if (t.outlet x).sp.contactor = .isOpen ∧ t.estop = false then OutletState.vacant else OutletState.outOfService
    (t.modSc x fun c => { c with state := st }).modMu x fun m =>
      { m with powerSum := 0, sampleCount := 0, silenceTimer := false }
  else s

/-- The restart's work in every block (R200): SP and then SC outlet by outlet, LI, PV, SE, the edge causes cleared, and a
site-trip input still asserted taken as newly asserted (R88; the order: log entry 17). -/
def State.serviceRestart (s : State) : State :=
  let t := (((s.restartStage .a).restartStage .b).restartOutlet .a).restartOutlet .b
  State.retrip
    { t with li := t.li.restart, se := t.se.restart
             pv := { peers := [], curtail := [], ownCurtail := none, hold := 0, holdTimer := false, haltRecord := none }
             pk := { t.pk with edge := 0 } }

/-- RESTART (R200): the work, with what the link brings meanwhile (R192), and the response after it. -/
def restartCommand (data : List Byte) (s : State) : Reply :=
  if data ≠ [] then s.refuse .badArgument else s.serviceRestart.hearAllInRestart.accept

/-! ## Tariffs (R152 to R154) -/

/-- The other bank. -/
def BankId.other : BankId → BankId
  | .bank0 => .bank1
  | .bank1 => .bank0

/-- The target bank: the non-active bank when it is not bound, else the active bank when it is not bound; with no active
bank, bank 1 counts as active (R153). -/
def TariffStore.target (t : TariffStore) : Option BankId :=
  let active := t.active.getD .bank1
  if (t.bank active.other).bound = 0 then some active.other
  else if (t.bank active).bound = 0 then some active
  else none

/-- The target bank is written and becomes active (R154). -/
def TariffStore.load (t : TariffStore) (i : BankId) (tariff : Tariff) : TariffStore :=
  { t.setBank i { t.bank i with tariff := some tariff } with active := some i }

/-- The number of a bank. -/
def BankId.number : BankId → Nat
  | .bank0 => 0
  | .bank1 => 1

/-- LOAD_TARIFF (R152, R153, R154). -/
def loadTariffCommand (data : List Byte) (s : State) : Reply :=
  if tariffAccepted data = false then s.refuse .badArgument
  else match s.ts.target with
    | none => s.refuse .bankBound
    | some i => { state := { s with ts := s.ts.load i (readTariff data) }, status := .ok, data := bytesOf 1 i.number }

/-! ## Sessions (R127, R128, R133, R136, R148) -/

/-- The live record of a session at its acceptance (R128). -/
def State.newRecord (s : State) (x : Outlet) (data : List Byte) (bank : BankId) (t : Tariff) : SessionRecord :=
  { id := s.nextId, outlet := x, auth := (data.drop 1).take 8, bank := bank, tariffId := t.id, startDay := s.cf.day,
    startSecond := s.cf.second, endTime := none, endReason := none, lines := [], billedWh := 0, energyCap := field data 9 4,
    costCap := field data 13 4, idleMinutes := 0, billedIdle := 0, idleFee := 0, fee := t.fee, flags := SessionFlags.clear }

/-- The counter after an assignment: from 65,535 it goes to 1 (R129). An id that an open or queued session still carries is
assigned all the same, as R129 says; R167 rules two records of one id out by counting sessions, which a session left open through
65,535 others escapes (DESIGN CHOICE: log entry 29). -/
def nextSessionId (id : Nat) : Nat := if id = 65535 then 1 else id + 1

/-- The steps of an acceptance up to the outlet state (R128, R129, R155, R168). -/
def State.bookSession (s : State) (x : Outlet) (r : SessionRecord) : State :=
  let t := { s with nextId := nextSessionId s.nextId, ts := s.ts.bind r.bank
                    sq := { s.sq with reserved := s.sq.reserved + 1 } }
  (t.modSc x fun c => { c with session := some r, requested := 0 }).modMu x MeterOutlet.openWindow

/-- The outlet state of a new session, by the recorded plug level and the halt (R128). -/
def State.placeSession (s : State) (x : Outlet) : State :=
  if (s.outlet x).sp.plugPresent = false then
    (s.enter x .awaitPlug).modSc x fun c => { c with awaitTimer := true }
  else if s.pv.isHalted then (s.enter x .suspended).modFlags x fun f => { f with halted := true }
  else s.connect x

/-- OPEN_SESSION after its checks on the data (R127, R128). -/
def State.openSessionAt (s : State) (x : Outlet) (data : List Byte) : Reply :=
  if s.isConfigured = false then s.refuse .notConfigured
  else if s.cf.clockSet = false then s.refuse .clockUnset
  else if s.fitted x = false then s.refuse .outletAbsent
  else if (s.outlet x).sc.state ≠ .vacant ∨ s.se.state = .barred then s.refuse .state
  else match s.ts.active with
    | none => s.refuse .noTariff
    | some bank =>
      match (s.ts.bank bank).tariff with
      | none => s.refuse .noTariff
      | some t =>
        if Config.queuePlaces ≤ s.sq.queue.length + s.sq.reserved then s.refuse .queueFull
        else
          { state := (s.bookSession x (s.newRecord x data bank t)).placeSession x, status := .ok
            data := bytesOf 2 s.nextId ++ bytesOf 2 t.id }

/-- OPEN_SESSION (R127). -/
def openSessionCommand (data : List Byte) (s : State) : Reply :=
  match outletOf (field data 0 1) with
  | none => s.refuse .badArgument
  | some x =>
    if data.length ≠ 17 ∨ Config.energyLimit < field data 9 4 then s.refuse .badArgument else s.openSessionAt x data

/-- The configured rating of an outlet (R194). -/
def State.rating (s : State) (x : Outlet) : Nat := (s.cf.config.map fun k => k.rating x).getD 0

/-- DEMAND (R133). -/
def demandCommand (data : List Byte) (s : State) : Reply :=
  match outletOf (field data 0 1) with
  | none => s.refuse .badArgument
  | some x =>
    if data.length ≠ 3 then s.refuse .badArgument
    else if s.fitted x = false then s.refuse .outletAbsent
    else if (s.outlet x).sc.state.running then
      (s.modSc x fun c => { c with requested := min (field data 1 2) (s.rating x) }).accept
    else s.refuse .state

/-- STOP_SESSION by the outlet state (R136). -/
def State.stopSessionAt (s : State) (x : Outlet) (reason : Nat) : Reply :=
  match (s.outlet x).sc.state with
  | .awaitPlug => (s.endAndSettle x reason).accept
  | .connecting => (s.ordinaryStop x reason).accept
  | .energising => (s.ordinaryStop x reason).accept
  | .suspended => (s.ordinaryStop x reason).accept
  | .closing => s.refuse .state
  | .idle => s.refuse .state
  | .vacant => s.refuse .state
  | .outOfService => s.refuse .state

/-- STOP_SESSION (R136). -/
def stopSessionCommand (data : List Byte) (s : State) : Reply :=
  match outletOf (field data 0 1) with
  | none => s.refuse .badArgument
  | some x =>
    if data.length ≠ 2 ∨ 127 < field data 1 1 then s.refuse .badArgument
    else if s.fitted x = false then s.refuse .outletAbsent
    else s.stopSessionAt x (field data 1 1)

/-- The data of READ_SESSION's response (R148). -/
def State.sessionBytes (s : State) (x : Outlet) : List Byte :=
  let c := (s.outlet x).sc
  bytesOf 1 c.state.code ++ [bitsByte [c.session.isSome, c.openCheck]] ++ bytesOf 2 c.requested ++
  match c.session with
  | none => []
  | some r => r.bytes (settledAmount r.total)

/-- READ_SESSION (R148). -/
def readSessionCommand (data : List Byte) (s : State) : Reply :=
  match outletOf (field data 0 1) with
  | none => s.refuse .badArgument
  | some x =>
    if data.length ≠ 1 then s.refuse .badArgument
    else if s.fitted x = false then s.refuse .outletAbsent
    else { state := s, status := .ok, data := s.sessionBytes x }

/-! ## Curtail and halt origination, the view (R80, R84, R37) -/

/-- PV takes a new own origin (R30). -/
def PeerView.setOwn (v : PeerView) (level : Nat) : PeerView :=
  { v with ownCurtail := if level < 100 then some level else none }

/-- The origin becomes the level, the own entry follows (R30), and the CURTAIL frame is placed at once (R80, R81). -/
def State.setOrigin (s : State) (level : Nat) : State :=
  (({ s with se := { s.se with origin := level } }).setView (s.pv.setOwn level)).placeCurtail level

/-- SET_CURTAIL (R80). -/
def setCurtailCommand (data : List Byte) (s : State) : Reply :=
  let level := field data 0 1
  if data.length ≠ 1 ∨ 100 < level then s.refuse .badArgument
  else if s.isConfigured = false then s.refuse .notConfigured
  else if level = 100 ∧ s.se.origin = 100 then s.accept
  else (s.setOrigin level).accept

/-- SITE_HALT (R84). -/
def siteHaltCommand (data : List Byte) (s : State) : Reply :=
  let seconds := field data 0 1
  if data.length ≠ 1 ∨ seconds = 0 then s.refuse .badArgument
  else if s.isConfigured = false then s.refuse .notConfigured
  else (s.originateHalt seconds 2).accept

/-- READ_VIEW (R37). -/
def readViewCommand (data : List Byte) (s : State) : Reply :=
  if data.length ≠ 1 ∨ 31 < field data 0 1 then s.refuse .badArgument
  else { state := s, status := .ok, data := s.pv.bytes s.ownStation (field data 0 1) }

/-! ## Settlement queue (R171, R172) -/

/-- READ_SETTLEMENT (R171). -/
def readSettlementCommand (data : List Byte) (s : State) : Reply :=
  if data ≠ [] then s.refuse .badArgument
  else match s.sq.queue with
    | [] => s.refuse .empty
    | r :: rest =>
      { state := s, status := .ok, data := bytesOf 1 (rest.length + 1) ++ r.record.bytes r.amount }

/-- RELEASE_SETTLEMENT (R172). -/
def releaseSettlementCommand (data : List Byte) (s : State) : Reply :=
  if data.length ≠ 2 then s.refuse .badArgument
  else match s.sq.queue with
    | [] => s.refuse .empty
    | r :: rest =>
      if field data 0 2 = r.record.id then
        { state := { s with sq := { s.sq with queue := rest } }, status := .ok, data := bytesOf 1 rest.length }
      else { state := s, status := .mismatch, data := bytesOf 2 r.record.id }

/-! ## Status, causes and mask (R188 to R190) -/

/-- READ_STATUS (R190). -/
def readStatusCommand (data : List Byte) (s : State) : Reply :=
  if data ≠ [] then s.refuse .badArgument else { state := s, status := .ok, data := s.statusBytes }

/-- The set of causes that two data bytes give; absent when the data is not 2 bytes or names a bit above 9 (R188, R189). -/
def readCauses (data : List Byte) : Option (BitVec 10) :=
  if data.length = 2 ∧ field data 0 2 < 1024 then some (BitVec.ofNat 10 (field data 0 2)) else none

/-- CLEAR_CAUSES (R188): the named edge causes are cleared; SETTLE_PENDING follows the queue. -/
def clearCausesCommand (data : List Byte) (s : State) : Reply :=
  match readCauses data with
  | none => s.refuse .badArgument
  | some named =>
    let t := { s with pk := { s.pk with edge := s.pk.edge &&& ~~~((named >>> 1).setWidth 9) } }
    { state := t, status := .ok, data := bytesOf 2 t.pendingSet.toNat }

/-- SET_MASK (R189). -/
def setMaskCommand (data : List Byte) (s : State) : Reply :=
  match readCauses data with
  | none => s.refuse .badArgument
  | some mask =>
    { state := { s with pk := { s.pk with mask := mask } }, status := .ok, data := bytesOf 2 s.pendingSet.toNat }

/-- The block named in R185's table takes the command. -/
def LinkCommand.run (c : LinkCommand) (data : List Byte) (s : State) : Reply :=
  match c with
  | .configure => configureCommand data s
  | .identify => identifyCommand data s
  | .setClock => setClockCommand data s
  | .restart => restartCommand data s
  | .loadTariff => loadTariffCommand data s
  | .openSession => openSessionCommand data s
  | .demand => demandCommand data s
  | .stopSession => stopSessionCommand data s
  | .readSession => readSessionCommand data s
  | .setCurtail => setCurtailCommand data s
  | .siteHalt => siteHaltCommand data s
  | .readView => readViewCommand data s
  | .readSettlement => readSettlementCommand data s
  | .releaseSettlement => releaseSettlementCommand data s
  | .readStatus => readStatusCommand data s
  | .clearCauses => clearCausesCommand data s
  | .setMask => setMaskCommand data s

end Sys2Proof.Machine
end

