-- ==== Sys2Proof/Machine/Link.lean ====
section
/-! DEFINITION. The pedestal link (chapter 10): taking commands, the events of the receiver, and the response buffer. -/

namespace Sys2Proof.Machine

/-! ## Answering and taking (R181 to R183) -/

/-- A response is formed in the EMPTY response buffer: SENDING when HOLD is released, HELD when it is asserted (R183). -/
def State.respond (s : State) (code : Byte) (st : Status) (data : List Byte) : State :=
  let r : Response := { code := code, status := st.code, data := data }
  { s with pk := { s.pk with response := if s.pk.hold then .held r else .sending r } }

/-- PK takes a command: an undefined code is answered with UNKNOWN_COMMAND, a defined one goes to its owner and the
owner's answer is placed in the response buffer (R182). -/
def State.takeCommand (s : State) (code : Byte) (data : List Byte) : State :=
  match LinkCommand.ofCode code with
  | none => s.respond code .unknownCommand []
  | some c =>
    let reply := c.run data s
    reply.state.respond code reply.status reply.data

/-- The response buffer is EMPTY. -/
def State.responseEmpty (s : State) : Bool := decide (s.pk.response = .empty)

/-- A command with a good check (R181, R182): taken at once when the response buffer is EMPTY and no command waits, else let wait or
discarded. -/
def State.offerCommand (s : State) (code : Byte) (data : List Byte) : State :=
  if s.linkBlocked = false ∧ s.responseEmpty then s.takeCommand code data else s.letWait (.command code data)

/-- A frame to be answered with BAD_FRAME and an echoed code (R181), under the same conditions. -/
def State.offerBadFrame (s : State) (code : Byte) : State :=
  if s.linkBlocked = false ∧ s.responseEmpty then s.respond code .badFrame [] else s.letWait (.badFrame code)

/-! ## The receiver's events (R180) -/

/-- A received byte (R180), and what falls due at it (R181). -/
def State.receiveByte (s : State) (b : Byte) : State :=
  let t := s.receiverTo (s.pk.receiver.afterByte b).1
  match (s.pk.receiver.afterByte b).2 with
  | .empty => t
  | .command code data => t.offerCommand code data
  | .badFrame code => t.offerBadFrame code

/-- LINK_BYTE_RECEIVED (R180). -/
def execLinkByteReceived (byte : Byte) (s : State) : Host.Outcome State Fault Refusal := .next (s.receiveByte byte)

/-- COMMAND_FRAME_COMPLETE (R180, R181): the byte that completes the frame in BODY. -/
def execCommandFrameComplete (last : Byte) (s : State) : Host.Outcome State Fault Refusal :=
  match s.pk.receiver with
  | .body length kept => if kept.length = length.toNat + 1 then .next (s.receiveByte last) else .next s
  | .hunt => .next s
  | .length => .next s
  | .skip => .next s

/-- LINK_BAD_LENGTH (R180, R181): in LENGTH, a length byte of 0 or above 96. -/
def execLinkBadLength (length : Byte) (s : State) : Host.Outcome State Fault Refusal :=
  if s.pk.receiver = .length ∧ badLength length then .next (s.receiveByte length) else .next s

/-- LINK_STOP_BIT_ERROR (R180). -/
def execLinkStopBitError (s : State) : Host.Outcome State Fault Refusal :=
  .next (s.receiverTo s.pk.receiver.afterStopBitError)

/-- LINK_GAP_TIMEOUT (R180). -/
def execLinkGapTimeout (s : State) : Host.Outcome State Fault Refusal := .next s.linkGap

/-! ## The response buffer (R183) -/

/-- What waits in the command buffer is taken, or answered with BAD_FRAME, once the response buffer is EMPTY (R181, R182). -/
def State.takeWaiting (s : State) : State :=
  let t := { s with pk := { s.pk with command := .empty, response := .empty } }
  match s.pk.command with
  | .empty => t
  | .command code data => t.takeCommand code data
  | .badFrame code => t.respond code .badFrame []

/-- RESPONSE_SENT (R183). -/
def execResponseSent (s : State) : Host.Outcome State Fault Refusal :=
  match s.pk.response with
  | .sending _ => .next s.takeWaiting
  | .held _ => .next s
  | .empty => .next s

/-- HOLD_RELEASED (R183): a HELD response starts. -/
def execHoldReleased (s : State) : Host.Outcome State Fault Refusal :=
  let t := { s with pk := { s.pk with hold := false } }
  match s.pk.response with
  | .held r => .next { t with pk := { t.pk with response := .sending r } }
  | .sending _ => .next t
  | .empty => .next t

/-- HOLD_ASSERTED (R183): a response under way is finished. -/
def execHoldAsserted (s : State) : Host.Outcome State Fault Refusal :=
  .next { s with pk := { s.pk with hold := true } }

end Sys2Proof.Machine
end

