-- ==== Sys2Proof/Machine/Commands.lean ====
section
/-! DEFINITION. The command rows of the opcode table: a command frame with a good check that carries the row's code and the
data given is evaluated by PK (R181, R182), which takes it at once, lets it wait or discards it. What the owning block does
with it stands in Machine/Owners.lean. -/

namespace Sys2Proof.Machine

/-- UNKNOWN_COMMAND (R182): a command with a code that R185 does not define. -/
def execUnknownCommand (code : Byte) (data : List Byte) (s : State) : Host.Outcome State Fault Refusal :=
  .next (s.offerCommand code data)

/-- CONFIGURE (R194): `configureCommand` is its owner's work. -/
def execConfigure (data : List Byte) (s : State) : Host.Outcome State Fault Refusal :=
  .next (s.offerCommand LinkCommand.configure.code data)

/-- IDENTIFY (R196): `identifyCommand` is its owner's work. -/
def execIdentify (data : List Byte) (s : State) : Host.Outcome State Fault Refusal :=
  .next (s.offerCommand LinkCommand.identify.code data)

/-- SET_CLOCK (R198): `setClockCommand` is its owner's work. -/
def execSetClock (data : List Byte) (s : State) : Host.Outcome State Fault Refusal :=
  .next (s.offerCommand LinkCommand.setClock.code data)

/-- RESTART (R200): `restartCommand` is its owner's work. -/
def execRestart (data : List Byte) (s : State) : Host.Outcome State Fault Refusal :=
  .next (s.offerCommand LinkCommand.restart.code data)

/-- LOAD_TARIFF (R152): `loadTariffCommand` is its owner's work. -/
def execLoadTariff (data : List Byte) (s : State) : Host.Outcome State Fault Refusal :=
  .next (s.offerCommand LinkCommand.loadTariff.code data)

/-- OPEN_SESSION (R127): `openSessionCommand` is its owner's work. -/
def execOpenSession (data : List Byte) (s : State) : Host.Outcome State Fault Refusal :=
  .next (s.offerCommand LinkCommand.openSession.code data)

/-- DEMAND (R133): `demandCommand` is its owner's work. -/
def execDemand (data : List Byte) (s : State) : Host.Outcome State Fault Refusal :=
  .next (s.offerCommand LinkCommand.demand.code data)

/-- STOP_SESSION (R136): `stopSessionCommand` is its owner's work. -/
def execStopSession (data : List Byte) (s : State) : Host.Outcome State Fault Refusal :=
  .next (s.offerCommand LinkCommand.stopSession.code data)

/-- READ_SESSION (R148): `readSessionCommand` is its owner's work. -/
def execReadSession (data : List Byte) (s : State) : Host.Outcome State Fault Refusal :=
  .next (s.offerCommand LinkCommand.readSession.code data)

/-- SET_CURTAIL (R80): `setCurtailCommand` is its owner's work. -/
def execSetCurtail (data : List Byte) (s : State) : Host.Outcome State Fault Refusal :=
  .next (s.offerCommand LinkCommand.setCurtail.code data)

/-- SITE_HALT (R84): `siteHaltCommand` is its owner's work. -/
def execSiteHalt (data : List Byte) (s : State) : Host.Outcome State Fault Refusal :=
  .next (s.offerCommand LinkCommand.siteHalt.code data)

/-- READ_VIEW (R37): `readViewCommand` is its owner's work. -/
def execReadView (data : List Byte) (s : State) : Host.Outcome State Fault Refusal :=
  .next (s.offerCommand LinkCommand.readView.code data)

/-- READ_SETTLEMENT (R171): `readSettlementCommand` is its owner's work. -/
def execReadSettlement (data : List Byte) (s : State) : Host.Outcome State Fault Refusal :=
  .next (s.offerCommand LinkCommand.readSettlement.code data)

/-- RELEASE_SETTLEMENT (R172): `releaseSettlementCommand` is its owner's work. -/
def execReleaseSettlement (data : List Byte) (s : State) : Host.Outcome State Fault Refusal :=
  .next (s.offerCommand LinkCommand.releaseSettlement.code data)

/-- READ_STATUS (R190): `readStatusCommand` is its owner's work. -/
def execReadStatus (data : List Byte) (s : State) : Host.Outcome State Fault Refusal :=
  .next (s.offerCommand LinkCommand.readStatus.code data)

/-- CLEAR_CAUSES (R188): `clearCausesCommand` is its owner's work. -/
def execClearCauses (data : List Byte) (s : State) : Host.Outcome State Fault Refusal :=
  .next (s.offerCommand LinkCommand.clearCauses.code data)

/-- SET_MASK (R189): `setMaskCommand` is its owner's work. -/
def execSetMask (data : List Byte) (s : State) : Host.Outcome State Fault Refusal :=
  .next (s.offerCommand LinkCommand.setMask.code data)

end Sys2Proof.Machine
end

