-- ==== Sys2Proof/Machine/Halt.lean ====
section
/-! DEFINITION. The halt hold's timer (R33) and the site-trip input (R82). -/

namespace Sys2Proof.Machine

/-- HOLD_TIMER_EXPIRY (R33): the count is lowered by 1; at 0 the timer stops and the halt ends. -/
def execHoldTimerExpiry (s : State) : Host.Outcome State Fault Refusal :=
  if s.pv.holdTimer then
    if 1 < s.pv.hold then .next { s with pv := { s.pv with hold := s.pv.hold - 1 } }
    else .next ({ s with pv := { s.pv with hold := 0, holdTimer := false } }.haltEnds)
  else .next s

/-- SITE_TRIP_ASSERTED (R82): before CONFIGURE the input is not watched, and only its level is kept. -/
def execSiteTripAsserted (s : State) : Host.Outcome State Fault Refusal :=
  if s.se.tripInput then .next s
  else
    let t := { s with se := { s.se with tripInput := true } }
    match s.cf.config with
    | some k => .next (t.tripBegins k)
    | none => .next t

/-- SITE_TRIP_RELEASED (R82). -/
def execSiteTripReleased (s : State) : Host.Outcome State Fault Refusal :=
  if s.se.tripInput then .next { s with se := { s.se with tripInput := false, tripRepeat := 0 } } else .next s

end Sys2Proof.Machine
end

