-- ==== Sys2Proof/Machine/Line.lean ====
section
/-! DEFINITION. The events of the park line (chapter 1). An event whose condition the state does not meet cannot occur in
the part; its command then leaves the state as it is (log entry 1). -/

namespace Sys2Proof.Machine

/-- The highest-priority full slot and its frame: HALT before CURTAIL before ANNOUNCE (R10). -/
def LineInterface.nextFrame (li : LineInterface) : Option (FrameKind × List Byte) :=
  match li.haltSlot, li.curtailSlot, li.announceSlot with
  | some b, _, _ => some (.halt, b)
  | none, some b, _ => some (.curtail, b)
  | none, none, some b => some (.announce, b)
  | none, none, none => none

/-- TRANSMIT_START (R10, R3). -/
def execTransmitStart (s : State) : Host.Outcome State Fault Refusal :=
  if s.li.condition = .idle ∧ s.se.state ≠ .barred ∧ s.li.activity = .quiet then
    match s.li.nextFrame with
    | none => .next s
    | some (kind, bytes) =>
      .next { s with li := { s.li with condition := .busy, recessive := 0, dominant := 1, activity := .sending kind bytes false } }
  else .next s

/-- The line interface at the end of an attempt whose ack cell was sampled (R7, R12): the slot is emptied when the frame was
acknowledged and the slot still holds it. -/
def LineInterface.attemptEnds (li : LineInterface) (kind : FrameKind) (bytes : List Byte) (replaced ack : Bool) :
    LineInterface :=
  let t := if ack && !replaced then li.setSlot kind none else li
  { t with activity := .quiet }.afterCells (frameCells bytes ++ [if ack then Cell.dominant else .recessive])

/-- TRANSMIT_COMPLETE (R12, R13). -/
def execTransmitComplete (ackDominant : Bool) (s : State) : Host.Outcome State Fault Refusal :=
  match s.li.activity with
  | .sending kind bytes replaced =>
    let reported := ackDominant && !replaced && decide (kind = .announce)
    .next { s with li := s.li.attemptEnds kind bytes replaced ackDominant
                   se := { s.se with ackReported := s.se.ackReported || reported } }
  | .receiving => .next s
  | .quiet => .next s

/-- ARBITRATION_LOST (R11): in a data cell of the header that LI sent recessive it saw dominant. LI becomes a receiver of the
frame in progress, and its frame stays in its slot. -/
def execArbitrationLost (s : State) (cell : Fin 8 := 0) : Host.Outcome State Fault Refusal :=
  match s.li.activity with
  | .sending _ bytes _ =>
    if sends bytes (1 + cell.val) .recessive then
      .next { s with li := { s.li with activity := .receiving }.afterCells (cellsUntil bytes (1 + cell.val) .dominant) }
    else .next s
  | .receiving => .next s
  | .quiet => .next s

/-- LI sends recessive in this cell of its frame, and it is a data cell after the header byte: the cell is not a tail (R19). -/
def comparesPastHeader (bytes : List Byte) (cell : Nat) : Bool :=
  decide (10 ≤ cell ∧ cell % 10 ≠ 9) && sends bytes cell .recessive

/-- NUMBER_CLASH (R19, R20, R75): after the header in the cell given, or by hearing. It is found at most once between two hard
resets, since a barred station evaluates no frame and sends none. -/
def execNumberClash (s : State) (cell : Option Nat := none) : Host.Outcome State Fault Refusal :=
  if s.se.state = .barred then .next s
  else match cell with
    | none => .next s.clash
    | some n =>
      match s.li.activity with
      | .sending _ bytes _ =>
        if comparesPastHeader bytes n then
          .next { s with li := s.li.afterCells (cellsUntil bytes n .dominant) }.clash
        else .next s
      | .receiving => .next s
      | .quiet => .next s

/-- TX_FAULT (R17): LI drove a cell of its frame dominant and saw it recessive. The transmission is abandoned, the frame kept,
LINE raised. -/
def execTxFault (s : State) (cell : Nat := 0) : Host.Outcome State Fault Refusal :=
  match s.li.activity with
  | .sending _ bytes _ =>
    if sends bytes cell .dominant then
      .next ({ s with li := { s.li with activity := .quiet }.afterCells (cellsUntil bytes cell .recessive) }.lineFault .txFault)
    else .next s
  | .receiving => .next s
  | .quiet => .next s

/-- The cells of a byte whose tail cell is found dominant (R14). -/
def cellsOfFramingError (byte : Byte) : List Cell := (byteCells byte).dropLast ++ [.dominant]

/-- FRAMING_ERROR (R14): the frame in progress is abandoned; a frame being sent stays in its slot. -/
def execFramingError (s : State) (byte : Byte := 0) : Host.Outcome State Fault Refusal :=
  let t := { s with li := { s.li with activity := .quiet }.afterCells (cellsOfFramingError byte) }
  match s.li.activity with
  | .sending _ _ _ => .next t
  | .receiving => .next t
  | .quiet => .next s

/-- The dominant count has reached 16 (R15): on entry to STUCK the frame in progress is abandoned and LINE is raised; a run
while STUCK raises nothing more. -/
def State.becomesStuck (s : State) : State :=
  if s.li.condition = .stuck then s
  else { s with li := { s.li with condition := .stuck, activity := .quiet } }.lineFault .lineStuck

/-- LINE_STUCK (R15, R3). -/
def execLineStuck (s : State) : Host.Outcome State Fault Refusal :=
  .next { s with li := { s.li with recessive := 0, dominant := Config.stuckCells } }.becomesStuck

/-- LINE_IDLE (R3, R16): the condition becomes IDLE, and a frame whose ack cell had not come is truncated. -/
def execLineIdle (s : State) : Host.Outcome State Fault Refusal :=
  .next { s with li := { s.li with condition := .idle, activity := .quiet, recessive := Config.idleCells, dominant := 0 } }

/-- A dominant cell in BUSY and in STUCK (R3): the recessive count restarts and no frame begins. The dominant count begins with
an edge and rises with a further cell of the run; at 16 the line is stuck (R15). -/
def State.dominantCell (s : State) (edge : Bool) : State :=
  let n := if edge then 1 else s.li.dominant + 1
  let t := { s with li := { s.li with recessive := 0, dominant := n } }
  if Config.stuckCells ≤ n then t.becomesStuck else t

/-- PEER_LEAD_CELL (R2, R3): in IDLE an edge makes the line BUSY and begins a received frame. -/
def execPeerLeadCell (s : State) (edge : Bool := true) : Host.Outcome State Fault Refusal :=
  match s.li.condition with
  | .idle =>
    if edge then
      .next { s with li := { s.li with condition := .busy, activity := .receiving, recessive := 0, dominant := 1 } }
    else .next s
  | .busy => .next (s.dominantCell edge)
  | .stuck => .next (s.dominantCell edge)

/-! ## Received frames -/

/-- LI hands an accepted frame to the peer view (R8): R25, R29 and R32 by its kind. -/
def State.handFrame (s : State) (kind : FrameKind) (station : Nat) (payload : List Byte) : State :=
  match kind with
  | .announce => s.setView { s.pv with peers := insertPeer (PeerEntry.ofPayload station payload) s.pv.peers }
  | .curtail =>
    let e : CurtailEntry := { station := station, level := readLevel (field payload 0 1), age := 0 }
    s.setView { s.pv with curtail := insertCurtail e s.pv.curtail }
  | .halt => s.takeHalt station (max 1 (field payload 0 1)) (field payload 1 1)

/-- The received frame is over: LI waits for the line to become idle, having driven the ack cell or not (R6, R7). -/
def LineInterface.frameEnds (li : LineInterface) (bytes : List Byte) (acked : Bool) : LineInterface :=
  { li with activity := .quiet, ackDriven := acked }.afterCells (frameCells bytes ++ if acked then [Cell.dominant] else [])

/-- LI acts on the outcome of R6's tests. -/
def State.takeFrame (s : State) (bytes : List Byte) : State :=
  let rejected := { s with li := s.li.frameEnds bytes false }
  match evaluateFrame s.ownStation (s.cf.config.map Configuration.population) bytes with
  | .damaged => rejected
  | .strayKind => rejected
  | .ownNumber => rejected.clash
  | .strayStation => rejected.lineFault .strayStation
  | .accepted kind station payload => { s with li := s.li.frameEnds bytes true }.handFrame kind station payload

/-- FRAME_EVALUATION (R6 to R8): no frame is evaluated while BARRED, and only a frame that LI is receiving is. -/
def execFrameEvaluation (bytes : List Byte) (s : State) : Host.Outcome State Fault Refusal :=
  if s.li.activity = .receiving ∧ s.se.state ≠ .barred then .next (s.takeFrame bytes) else .next s

end Sys2Proof.Machine
end

