-- ==== Sys2Proof/Machine/Meter.lean ====
section
/-! DEFINITION. The meter unit's events: samples (R109 to R112, R119), meter pulses and their cross-check windows (R114 to
R116), and the silence of the stage (R121). -/

namespace Sys2Proof.Machine

/-- A field of a SAMPLE as SP reads it: saturated, or above full scale, it is full scale with its flag set (R89). -/
def readField (fullScale raw : Nat) (saturated : Bool) : Nat × Bool :=
  if saturated then (fullScale, true) else if fullScale < raw then (fullScale, true) else (raw, false)

/-- Step 7 of a sample: the overdraw test against the in-force ceiling handed with the sample (R119). -/
def State.testOverdraw (s : State) (x : Outlet) (p inForce : Nat) (counting : Bool) : State :=
  let tolerance := (s.cf.config.map Configuration.tolerance).getD 0
  if (inForce + tolerance) * Config.perPowerUnit < p ∧ (s.outlet x).sc.state = .energising ∧ counting then
    if (s.outlet x).mu.overdraw < Config.overdrawLast then s.modMu x fun m => { m with overdraw := m.overdraw + 1 }
    else (s.modMu x fun m => { m with overdraw := 0 }).ordinaryStop x EndReason.overdraw
  else s.modMu x fun m => { m with overdraw := 0 }

/-- Step 6 of a sample: the carried Wh go to SC under SAMPLE (R112), to the window sample energy under PULSE (R113). -/
def State.handCarry (s : State) (x : Outlet) (wh : Nat) : State :=
  if wh = 0 then s
  else match s.cf.straps.source with
    | .sample => s.deliver x wh s.minute
    | .pulse => s.modMu x fun m => { m with windowSample := m.windowSample + wh }

/-- Steps 1 to 7 of a sample with its fields as read (R110). -/
def State.meterSample (s : State) (x : Outlet) (v i : Nat) (saturated : Bool) : State :=
  let p := v * i
  let o := s.outlet x
  let counting := o.mu.windowOpen && o.sp.feedbackClosed
  let t := s.modMu x fun m => { m with powerSum := m.powerSum + p, sampleCount := m.sampleCount + 1 }
  let u :=
    if counting then
      let clamped := if saturated then t.modFlags x fun f => { f with meterClamped := true } else t
      (clamped.modMu x fun m => { m with residue := (o.mu.residue + p) % Config.residuePerWh }).handCarry x
        ((o.mu.residue + p) / Config.residuePerWh)
    else t
  u.testOverdraw x p o.sp.inForce counting

/-- SAMPLE (R89, R90, R110). -/
def execSample (x : Outlet) (voltage current : BitVec 16) (voltageSaturated currentSaturated : Bool) (s : State) :
    Host.Outcome State Fault Refusal :=
  if s.fitted x then
    let v := readField Config.voltageMax voltage.toNat voltageSaturated
    let i := readField Config.currentMax current.toNat currentSaturated
    .next (s.meterSample x v.1 i.1 (v.2 || i.2))
  else .next s

/-- A cross-check window closes: the disagree count follows, and a third disagreeing window in a row sets METER_DISAGREE and
raises METER (R115, R116). -/
def State.closeCrossCheck (s : State) (x : Outlet) : State :=
  let m := (s.outlet x).mu
  let next := fun d => s.modMu x fun m => { m with windowPulse := 0, windowSample := 0, disagree := d }
  if m.windowSample ≤ Config.windowWh + Config.windowMargin ∧ Config.windowWh ≤ m.windowSample + Config.windowMargin then
    next 0
  else if m.disagree < Config.disagreeLast then next (m.disagree + 1)
  else ((next 0).modFlags x fun f => { f with meterDisagree := true }).raise .meter

/-- The window pulse energy is raised, and a full window closes (R114, R115). -/
def State.countPulse (s : State) (x : Outlet) (weight : Nat) : State :=
  let t := s.modMu x fun m => { m with windowPulse := m.windowPulse + weight }
  if Config.windowWh ≤ (t.outlet x).mu.windowPulse then t.closeCrossCheck x else t

/-- METER_PULSE (R114): a change of the filtered level from released to asserted, under PULSE; counted while the metering
window is OPEN. A delivery that settles the session has closed the window, and its figures are discarded (log entry 12). -/
def execMeterPulse (x : Outlet) (s : State) : Host.Outcome State Fault Refusal :=
  if s.cf.straps.source = .pulse ∧ s.fitted x ∧ (s.outlet x).mu.pulseAsserted = false then
    let t := s.modMu x fun m => { m with pulseAsserted := true }
    match s.cf.config with
    | none => .next t
    | some k =>
      if (s.outlet x).mu.windowOpen then
        let u := t.deliver x k.pulseWeight s.minute
        if (u.outlet x).mu.windowOpen then .next (u.countPulse x k.pulseWeight) else .next u
      else .next t
  else .next s

/-- PULSE_INPUT_RELEASED (R114): under PULSE the filtered level becomes released, and the next pulse can be taken. -/
def execPulseInputReleased (x : Outlet) (s : State) : Host.Outcome State Fault Refusal :=
  if s.cf.straps.source = .pulse ∧ s.fitted x then .next (s.modMu x fun m => { m with pulseAsserted := false })
  else .next s

/-- STAGE_LOST (R121): the silence timer stops, and the session of the energising outlet ends by a quick stop (R139). -/
def execStageLost (x : Outlet) (s : State) : Host.Outcome State Fault Refusal :=
  if (s.outlet x).mu.silenceTimer then
    let t := s.modMu x fun m => { m with silenceTimer := false }
    if (s.outlet x).sc.state = .energising then .next (t.quickStop x EndReason.stageLost) else .next t
  else .next s

end Sys2Proof.Machine
end

