-- ==== Sys2Proof/Machine/Sharing.lean ====
section
/-! DEFINITION. The sharing arithmetic (chapter 3) as functions of the figures it reads: effective budget, water-fill,
headroom, ceiling, claim and outlet split. Everything is formed in full over natural numbers (R42); a difference below 0
is 0, where and only where a rule says so. -/

namespace Sys2Proof.Machine

/-- E: the curtailed budget less the margin and less F for each station number not in view (R44). -/
def effectiveBudget (k : Configuration) (level inView : Nat) : Nat :=
  k.budget * level / 100 - k.margin - k.fallback * (k.population - inView)

/-- A peer entry is flexible when it is FRESH, carries neither flag, and has weight and demand (R45). -/
def PeerEntry.flexible (e : PeerEntry) : Bool :=
  !e.quiet && !e.joining && !e.halted && decide (1 ≤ e.weight) && decide (1 ≤ e.demand)

/-- The sum of the reservations of every peer entry (R51). -/
def allReservations (ps : List PeerEntry) : Nat := (ps.map PeerEntry.reservation).sum

/-- The sum of the reservations of the fixed peer entries (R47). -/
def fixedReservations (ps : List PeerEntry) : Nat := allReservations (ps.filter fun e => !e.flexible)

/-! ## The water-fill (R48, R49) -/

/-- A member of the flexible set: station number, demand and weight (R48). -/
structure Member where
  station : Nat
  q : Nat
  w : Nat
  deriving DecidableEq, Repr

/-- The order of the flexible set: ascending ratio q / w by products, equal products by station number (R48). -/
def Member.before (a b : Member) : Bool :=
  decide (a.q * b.w < b.q * a.w ∨ (a.q * b.w = b.q * a.w ∧ a.station < b.station))

/-- Put a member into its place. -/
def insertMember (m : Member) : List Member → List Member
  | [] => [m]
  | n :: rest => if m.before n then m :: n :: rest else n :: insertMember m rest

/-- The flexible set in its order (R48). -/
def sortMembers (ms : List Member) : List Member := ms.foldr insertMember []

/-- The flexible peers as members (R48). -/
def flexiblePeers (ps : List PeerEntry) : List Member :=
  (ps.filter PeerEntry.flexible).map fun e => { station := e.station, q := e.demand, w := e.weight }

/-- The sum of the weights (R48). -/
def totalWeight (ms : List Member) : Nat := (ms.map Member.w).sum

/-- The walk of the water-fill with running remainder and weight: what each member is given (R49). -/
def waterFill : Nat → Nat → List Member → List (Nat × Nat)
  | _, _, [] => []
  | r, w, m :: rest =>
    if m.q ≤ r * m.w / w then (m.station, m.q) :: waterFill (r - m.q) (w - m.w) rest
    else (m :: rest).map fun n => (n.station, r * n.w / w)

/-- What the walk gives a station; 0 when it takes no part. -/
def givenTo (station : Nat) (given : List (Nat × Nat)) : Nat :=
  ((given.find? fun g => g.1 == station).map Prod.snd).getD 0

/-- S: the own share, 0 when the own station is not flexible (R46, R47, R49). -/
def ownShare (budget : Nat) (ps : List PeerEntry) (own q w : Nat) : Nat :=
  if 1 ≤ w ∧ 1 ≤ q then
    let set := sortMembers ({ station := own, q := q, w := w } :: flexiblePeers ps)
    givenTo own (waterFill (budget - fixedReservations ps) (totalWeight set) set)
  else 0

/-! ## Ceiling and claim (R51 to R58) -/

/-- The lowering (R52). -/
def lowered (ceiling share q : Nat) : Nat := min ceiling (min share q)

/-- H, from the ceiling as the lowering left it (R51). -/
def headroom (budget : Nat) (ps : List PeerEntry) (ceiling : Nat) : Nat := budget - allReservations ps - ceiling

/-- The raise: to C* when the previous claim was acknowledged and C* is above C (R53). -/
def raised (acked : Bool) (prevClaim share q ceiling room : Nat) : Nat :=
  if acked then max ceiling (min prevClaim (min share (min q (ceiling + room)))) else ceiling

/-- K (R54). -/
def newClaim (share q ceiling ramp : Nat) : Nat := min share (min q (ceiling + ramp))

/-- C in ISOLATED by the state timer (R57). -/
def isolatedCeiling (k : Configuration) (timer ceiling q : Nat) : Nat :=
  if timer ≤ 1 then min ceiling k.fallback
  else if timer < Config.joinRounds then ceiling
  else min k.fallback (min q (ceiling + k.ramp))

/-- The split of C between the outlets with demands qA and qB (R59). -/
def splitCeiling (c qA qB : Nat) : Nat × Nat :=
  if qA + qB ≤ c then (qA, qB)
  else if qA ≤ qB then
    let cA := min qA (c / 2)
    (cA, min qB (c - cA))
  else
    let cB := min qB (c / 2)
    (min qA (c - cB), cB)

/-! ## What the share engine reads (R42, R43) -/

/-- q_X: the requested power of an outlet in ENERGISING, else 0 (R43). -/
def State.outletDemand (s : State) (x : Outlet) : Nat :=
  if s.fitted x ∧ (s.outlet x).sc.state = .energising then (s.outlet x).sc.requested else 0

/-- q_self (R43). -/
def State.ownDemand (s : State) (k : Configuration) : Nat := min (s.outletDemand .a + s.outletDemand .b) k.rated

/-- w_self (R43). -/
def State.ownWeight (s : State) : Nat :=
  (if 0 < s.outletDemand .a then 1 else 0) + (if 0 < s.outletDemand .b then 1 else 0)

/-- The stations in view: the entries and the own station (R42). -/
def State.inView (s : State) : Nat := s.pv.peers.length + 1

/-- E of this round (R44). -/
def State.roundBudget (s : State) (k : Configuration) : Nat := effectiveBudget k s.pv.level s.inView

/-- S of this round (R46 to R49). -/
def State.roundShare (s : State) (k : Configuration) : Nat :=
  ownShare (s.roundBudget k) s.pv.peers s.ownStation (s.ownDemand k) s.ownWeight

end Sys2Proof.Machine
end

