-- ==== Sys2Proof/Machine/Round.lean ====
section
/-! DEFINITION. ROUND: the seven ordered steps of a round (R67), with the meter unit's round draw (R117) and the marking of
reduced sessions (R132). -/

namespace Sys2Proof.Machine

/-- Step 1: the peer view ages its tables (R26). -/
def State.roundAgeing (s : State) : State :=
  s.setView { s.pv with peers := agePeers s.pv.peers, curtail := ageCurtail s.pv.curtail }

/-- Step 2: the outcome of the previous round's ANNOUNCE, and the failed-round count (R68). -/
def ShareEngine.fixOutcome (e : ShareEngine) : ShareEngine :=
  if e.frameBuilt = false then { e with prevClaim := 0, prevAcked := false, ackReported := false }
  else if e.ackReported then { e with prevClaim := e.frameClaim, prevAcked := true, failed := 0, ackReported := false }
  else
    { e with prevClaim := e.frameClaim, prevAcked := false
             failed := if e.state = .joining ∨ e.state = .sharing then e.failed + 1 else e.failed }

/-- The state timer raised, held at 255 (R69). -/
def ShareEngine.tick (e : ShareEngine) : ShareEngine := { e with timer := min (e.timer + 1) Config.timerMax }

/-- A share state entered at a round has that round as its first (R69). -/
def ShareEngine.enterAtRound (e : ShareEngine) (st : ShareState) : ShareEngine := { e with state := st, timer := 1 }

/-- Step 3: the share-state transitions of a round, on the raised timer (R71 to R73). -/
def ShareEngine.transition (e : ShareEngine) (fallback : Nat) : ShareEngine :=
  match e.state with
  | .joining =>
    if e.failed = Config.failLimit then { e.enterAtRound .isolated with failed := 0 }
    else if Config.joinRounds ≤ e.timer ∧ e.prevAcked then e.enterAtRound .sharing
    else e
  | .sharing => if e.failed = Config.failLimit then { e.enterAtRound .isolated with failed := 0 } else e
  | .isolated => if e.prevAcked then { e.enterAtRound .joining with cap := fallback } else e
  | .unconfigured => e
  | .barred => e

/-- Steps 2 and 3, with SHARE raised at a change of share state (R77). -/
def State.roundState (s : State) : State :=
  let e := s.se.fixOutcome.tick.transition ((s.cf.config.map Configuration.fallback).getD 0)
  let t := { s with se := e }
  if e.state = s.se.state then t else t.raise .share

/-- No figure computed (R64). -/
def RoundFigures.blank : RoundFigures := { budget := none, share := none, headroom := none }

/-- Step 4: the arithmetic under the state reached, and the round figures (R44 to R58, R64). -/
def State.roundArithmetic (s : State) : State :=
  match s.cf.config with
  | none => { s with se := { s.se with figures := RoundFigures.blank } }
  | some k =>
    let e := s.roundBudget k
    let q := s.ownDemand k
    match s.se.state with
    | .unconfigured => { s with se := { s.se with figures := RoundFigures.blank } }
    | .barred => { s with se := { s.se with figures := RoundFigures.blank } }
    | .joining =>
      let c := if s.pv.isHalted then 0 else min s.se.ceiling s.se.cap
      { s with se := { s.se with ceiling := c, claim := c, figures := { RoundFigures.blank with budget := some e } } }
    | .isolated =>
      let c := if s.pv.isHalted then 0 else isolatedCeiling k s.se.timer s.se.ceiling q
      { s with se := { s.se with ceiling := c, claim := c, figures := { RoundFigures.blank with budget := some e } } }
    | .sharing =>
      if s.pv.isHalted then
        { s with se := { s.se with ceiling := 0, claim := 0, figures := { RoundFigures.blank with budget := some e } } }
      else
        let share := s.roundShare k
        let low := lowered s.se.ceiling share q
        let room := headroom e s.pv.peers low
        let c := raised s.se.prevAcked s.se.prevClaim share q low room
        { s with se := { s.se with ceiling := c, claim := newClaim share q c k.ramp,
                                   figures := { budget := some e, share := some share, headroom := some room } } }

/-- The share state takes part in the arithmetic, the split and the ANNOUNCE (R67). -/
def ShareState.active : ShareState → Bool
  | .joining => true
  | .sharing => true
  | .isolated => true
  | .unconfigured => false
  | .barred => false

/-- One outlet's ceiling of the split: ordered when it differs (R60), and a session below its demand marked REDUCED
(R132). -/
def State.giveCeiling (s : State) (x : Outlet) (c : Nat) : State :=
  let t := s.order x c
  if (s.outlet x).sc.state = .energising ∧ c < (s.outlet x).sc.requested then
    t.modFlags x fun f => { f with reduced := true }
  else t

/-- Step 5: the split and its orders (R59, R60). -/
def State.roundSplit (s : State) : State :=
  if s.se.state.active then
    let c := splitCeiling s.se.ceiling (s.outletDemand .a) (s.outletDemand .b)
    (s.giveCeiling .a c.1).giveCeiling .b c.2
  else s

/-- The round draw of an outlet (R117). -/
def State.outletDraw (s : State) (x : Outlet) : Nat :=
  let m := (s.outlet x).mu
  if s.fitted x ∧ (s.outlet x).sc.state = .energising then
    if 1 ≤ m.sampleCount then m.powerSum / m.sampleCount / Config.perPowerUnit else (s.outlet x).sp.inForce
  else 0

/-- MU records an outlet's round draw and starts its sums anew (R117). -/
def State.recordDraw (s : State) (x : Outlet) : State :=
  s.modMu x fun m => { m with lastDraw := s.outletDraw x, powerSum := 0, sampleCount := 0 }

/-- The payload of the round's ANNOUNCE (R61 to R63), after the orders and the draws of the round. -/
def State.announcePayload (s : State) (k : Configuration) : List Byte :=
  let inForce := (s.outlet .a).sp.inForce + (s.outlet .b).sp.inForce
  let draw := (s.outlet .a).mu.lastDraw + (s.outlet .b).mu.lastDraw
  bitsByte [decide (s.se.state = .joining), s.pv.isHalted] :: bytesOf 1 s.ownWeight ++ bytesOf 2 (s.ownDemand k) ++
  bytesOf 2 (min Config.field16Max (max s.se.ceiling inForce)) ++ bytesOf 2 s.se.claim ++
  bytesOf 2 (min Config.field16Max draw) ++ bytesOf 1 s.se.parity.toNat

/-- Step 6: the round parity is inverted, the ANNOUNCE is built and placed, and the marker follows (R61, R63, R68). -/
def State.roundAnnounce (s : State) : State :=
  let t := { s with se := { s.se with parity := !s.se.parity } }
  match s.cf.config with
  | none => { t with se := { t.se with frameBuilt := false } }
  | some k =>
    if t.se.state.active then
      let u := { t with se := { t.se with frameBuilt := true, frameClaim := t.se.claim } }
      u.placeFrame .announce (parkFrame .announce s.ownStation (t.announcePayload k))
    else { t with se := { t.se with frameBuilt := false } }

/-- Step 7: the CURTAIL frame of an own origin below 100 (R81), and the site-trip repeat (R82). -/
def State.roundOriginate (s : State) : State :=
  let t := if s.se.origin < 100 then s.placeCurtail s.se.origin else s
  match t.cf.config with
  | none => t
  | some k =>
    if t.se.tripInput = false then t
    else if t.se.tripRepeat + 1 < Config.tripRounds then
      { t with se := { t.se with tripRepeat := t.se.tripRepeat + 1 } }
    else t.tripBegins k

/-- ROUND (R67). -/
def execRound (s : State) : Host.Outcome State Fault Refusal :=
  .next (((s.roundAgeing.roundState.roundArithmetic.roundSplit.recordDraw .a).recordDraw .b).roundAnnounce.roundOriginate)

end Sys2Proof.Machine
end

