-- ==== Sys2Proof/Machine/Session.lean ====
section
/-! DEFINITION. The session controller's own timers: the await timer (R130) and the idle minute timer (R144). -/

namespace Sys2Proof.Machine

/-- NO_VEHICLE (R130): the await timer's expiry ends the session and settles it at once. -/
def execNoVehicle (x : Outlet) (s : State) : Host.Outcome State Fault Refusal :=
  if (s.outlet x).sc.awaitTimer ∧ (s.outlet x).sc.state = .awaitPlug then
    .next (s.endAndSettle x EndReason.noVehicle)
  else .next s

/-- One idle minute of a record under the idle terms of its bank: counted, then not billed, clamped or billed (R144). -/
def SessionRecord.idleMinute (r : SessionRecord) (grace price maximum : Nat) : SessionRecord :=
  let r := { r with idleMinutes := min (r.idleMinutes + 1) Config.idleMinutesMax }
  if r.idleMinutes ≤ grace then r
  else if maximum ≤ r.billedIdle then r
  else if r.flags.idleClamped then r
  else if 0 < r.costCap ∧ r.costCap * Config.microPerHundredth < r.total + price then
    { r with flags := { r.flags with idleClamped := true } }
  else { r with billedIdle := r.billedIdle + 1, idleFee := r.idleFee + price }

/-- IDLE_MINUTE (R144, R159). -/
def execIdleMinute (x : Outlet) (s : State) : Host.Outcome State Fault Refusal :=
  if (s.outlet x).sc.idleTimer then
    match (s.outlet x).sc.session with
    | none => .next s
    | some r =>
      match (s.ts.bank r.bank).tariff with
      | none => .next s
      | some t => .next (s.modSession x fun r => r.idleMinute t.idleGrace t.idlePrice t.idleMax)
  else .next s

end Sys2Proof.Machine
end

