-- ==== Sys2Proof/Machine/Stage.lean ====
section
/-! DEFINITION. The events of the stage port and the outlet hardware (chapter 5). The lines, messages and timers of an outlet
not fitted are ignored (R89, section 5 of the chapter). -/

namespace Sys2Proof.Machine

/-- STAGE_MESSAGE_DISCARDED (R89): a discarded message raises no cause and changes no state. -/
def execStageMessageDiscarded (_why : DiscardReason) (s : State) : Host.Outcome State Fault Refusal := .next s

/-- SETTLED (R93): a value that matches an UNCONFIRMED order confirms it, and SC has the confirmation; any other changes
nothing. -/
def execSettled (x : Outlet) (value : BitVec 16) (s : State) : Host.Outcome State Fault Refusal :=
  let o := (s.outlet x).sp
  if s.fitted x ∧ value.toNat = o.ordered ∧ o.isConfirmed = false then
    .next ((s.modSp x fun o => { o with
      confirmed := value.toNat, isConfirmed := true, orderTimer := o.orderTimer.onConfirmation }).endRampDown x)
  else .next s

/-- ORDER_TIMER_EXPIRY (R94): a running session ends with STAGE_FAULT (R139), and CLOSING's wait for SETTLED ends (R140). -/
def execOrderTimerExpiry (x : Outlet) (s : State) : Host.Outcome State Fault Refusal :=
  if (s.outlet x).sp.orderTimer = .running then
    let t := s.modSp x fun o => { o with orderTimer := .expired }
    if (s.outlet x).sc.state.running then .next (t.quickStop x EndReason.stageFault) else .next (t.endRampDown x)
  else .next s

/-- SC has the contactor closed (R98): CONNECTING goes to ENERGISING (R132); CLOSING goes on (R140). -/
def State.contactorClosed (s : State) (x : Outlet) : State :=
  if (s.outlet x).sc.state = .connecting then s.enter x .energising else s

/-- FEEDBACK_CLOSED (R98, R100). -/
def execFeedbackClosed (x : Outlet) (s : State) : Host.Outcome State Fault Refusal :=
  if s.fitted x ∧ (s.outlet x).sp.feedbackClosed = false then
    let t := s.modSp x fun o => { o with feedbackClosed := true }
    match (s.outlet x).sp.contactor with
    | .closeWait => .next ((t.modSp x fun o => { o with contactor := .closed, contactorTimer := false }).contactorClosed x)
    | .isOpen => .next (t.weld x)
    | .closed => .next t
    | .openWait => .next t
    | .welded => .next t
  else .next s

/-- SC has CONTACTOR_DROP (R100): ENERGISING goes to CLOSING, and in CLOSING the ramp-down ends (R140). -/
def State.contactorDrop (s : State) (x : Outlet) : State :=
  if (s.outlet x).sc.state = .energising then s.ordinaryStop x EndReason.contactorDrop else s.endRampDown x

/-- FEEDBACK_OPEN (R99, R100). -/
def execFeedbackOpen (x : Outlet) (s : State) : Host.Outcome State Fault Refusal :=
  if s.fitted x ∧ (s.outlet x).sp.feedbackClosed then
    let t := s.modSp x fun o => { o with feedbackClosed := false }
    match (s.outlet x).sp.contactor with
    | .openWait => .next (t.openConfirmed x)
    | .closed => .next (((t.order x 0).openConfirmed x).contactorDrop x)
    | .isOpen => .next t
    | .closeWait => .next t
    | .welded => .next t
  else .next s

/-- SC has CONTACTOR_FAULT (R98): a quick stop from CONNECTING (R139); in CLOSING the ramp-down ends (R140). -/
def State.contactorFault (s : State) (x : Outlet) : State :=
  if (s.outlet x).sc.state = .connecting then s.quickStop x EndReason.contactorFault else s.endRampDown x

/-- CONTACTOR_TIMER_EXPIRY (R98, R99): a contactor that did not close is released and found OPEN; one that did not open is
suspected of having welded. -/
def execContactorTimerExpiry (x : Outlet) (s : State) : Host.Outcome State Fault Refusal :=
  if (s.outlet x).sp.contactorTimer then
    match (s.outlet x).sp.contactor with
    | .closeWait => .next ((s.openConfirmed x).contactorFault x)
    | .openWait => .next (s.weld x)
    | .isOpen => .next s
    | .closed => .next s
    | .welded => .next s
  else .next s

/-- PLUG_INSERTED (R102, R130): in AWAIT_PLUG the session goes on; elsewhere the level is recorded. -/
def execPlugInserted (x : Outlet) (s : State) : Host.Outcome State Fault Refusal :=
  if s.fitted x ∧ (s.outlet x).sp.plugPresent = false then
    let t := s.modSp x fun o => { o with plugPresent := true }
    if (s.outlet x).sc.state = .awaitPlug then
      let u := t.modSc x fun c => { c with awaitTimer := false }
      if s.pv.isHalted then .next ((u.enter x .suspended).modFlags x fun f => { f with halted := true })
      else .next (u.connect x)
    else .next t
  else .next s

/-- PLUG_REMOVED (R102): a quick stop with UNPLUGGED of a running session (R139), the end of a ramp-down (R140), the
settlement from IDLE (R144); elsewhere the level is recorded. -/
def execPlugRemoved (x : Outlet) (s : State) : Host.Outcome State Fault Refusal :=
  if s.fitted x ∧ (s.outlet x).sp.plugPresent then
    let t := s.modSp x fun o => { o with plugPresent := false }
    match (s.outlet x).sc.state with
    | .connecting => .next (t.quickStop x EndReason.unplugged)
    | .energising => .next (t.quickStop x EndReason.unplugged)
    | .suspended => .next (t.quickStop x EndReason.unplugged)
    | .closing => .next (t.endRampDown x)
    | .idle => .next (t.settle x)
    | .vacant => .next t
    | .awaitPlug => .next t
    | .outOfService => .next t
  else .next s

/-! ## Emergency stop (R103, R104, R145) -/

/-- SP's steps at one outlet (R103): the order of 0, then the contactor. -/
def State.stopStage (s : State) (x : Outlet) : State :=
  if s.fitted x then (s.order x 0).modSp x StageOutlet.quietOpen else s

/-- SC's step for a session whose contactor may still have to open (R145). -/
def State.stopOpening (s : State) (x : Outlet) : State :=
  if (s.outlet x).sp.contactor = .isOpen then s.endAndSettle x EndReason.emergencyStop
  else ((s.endWith x EndReason.emergencyStop).enter x .outOfService).modSc x fun c => { c with openCheck := true }

/-- SC's steps at one outlet (R145). -/
def State.stopOutlet (s : State) (x : Outlet) : State :=
  match (s.outlet x).sc.state with
  | .vacant => s.enter x .outOfService
  | .awaitPlug => s.endAndSettle x EndReason.emergencyStop
  | .idle => s.endAndSettle x EndReason.emergencyStop
  | .connecting => s.stopOpening x
  | .energising => s.stopOpening x
  | .suspended => s.stopOpening x
  | .closing => s.stopOpening x
  | .outOfService => if (s.outlet x).sc.openCheck then s.endWith x EndReason.emergencyStop else s

/-- EMERGENCY_STOP_ASSERTED (R103, R145): the stage port stops both outlets, then the session controller ends their
sessions. A repeated assertion is not a new event. -/
def execEmergencyStopAsserted (s : State) : Host.Outcome State Fault Refusal :=
  if s.estop then .next s
  else
    let t := ({ s with estop := true }.stopStage .a).stopStage .b
    .next ((t.stopOutlet .a).stopOutlet .b)

/-- The release at one outlet (R104): a contactor OPEN, or WELDED with an open feedback, sends it to VACANT. -/
def State.releaseOutlet (s : State) (x : Outlet) : State :=
  if s.fitted x then
    let t := s.modSp x StageOutlet.unweld
    if (t.outlet x).sp.contactor = .isOpen ∧ (t.outlet x).sc.state = .outOfService ∧ (t.outlet x).sc.openCheck = false then
      t.enter x .vacant
    else t
  else s

/-- EMERGENCY_STOP_RELEASED (R104). -/
def execEmergencyStopReleased (s : State) : Host.Outcome State Fault Refusal :=
  if s.estop then .next (({ s with estop := false }.releaseOutlet .a).releaseOutlet .b) else .next s

end Sys2Proof.Machine
end

