-- ==== Sys2Proof/Machine/Start.lean ====
section
/-! DEFINITION. HARD_RESET and CLOCK_TICK: the start of the part and its clock (chapter 11). -/

namespace Sys2Proof.Machine

/-- SP's record of a fitted outlet whose lines are sampled as given (R106). -/
def StageOutlet.sampled (feedbackClosed plugPresent : Bool) : StageOutlet :=
  { StageOutlet.afterReset with contactor := if feedbackClosed then .welded else .isOpen
                                feedbackClosed := feedbackClosed, plugPresent := plugPresent }

/-- The records of a fitted outlet after a hard reset (R106, R124, R149): the pulse input is read under PULSE only (R113),
and the outlet is OUT_OF_SERVICE when its contactor is found WELDED or the emergency stop is asserted. -/
def OutletRecord.sampled (source : BillingSource) (estop feedbackClosed plugPresent pulse : Bool) : OutletRecord :=
  { sp := StageOutlet.sampled feedbackClosed plugPresent
    mu := { MeterOutlet.afterReset with pulseAsserted := decide (source = .pulse) && pulse }
    sc := SessionOutlet.afterReset (if feedbackClosed || estop then .outOfService else .vacant) }

/-- The records of an outlet not fitted (R106, R149). -/
def OutletRecord.absent : OutletRecord :=
  { sp := StageOutlet.absent, mu := MeterOutlet.afterReset, sc := SessionOutlet.afterReset .outOfService }

/-- HARD_RESET (R199): the straps are sampled (R193) and every block takes its values (R21, R39, R65, R87, R106, R124, R149,
R165, R177, R191). One SETPOINT 0 is sent for each fitted outlet (R106). The commands that wait are not the part's. -/
def execHardReset (pins : StrapPins) (levels : InputLevels) (s : State) : Host.Outcome State Fault Refusal :=
  let straps := Straps.ofPins pins
  let zero : Outlet → Setpoint := fun x => { outlet := x, value := 0 }
  .next
    { cf := { straps := straps, config := none, day := 0, second := 0, clockSet := false }
      li := { condition := .busy, recessive := 0, dominant := 0, activity := .quiet, haltSlot := none, curtailSlot := none,
              announceSlot := none, lastFault := .noFault, ackDriven := false }
      pv := { peers := [], curtail := [], ownCurtail := none, hold := 0, holdTimer := false, haltRecord := none }
      se := { state := .unconfigured, timer := 0, failed := 0, cap := 0, frameBuilt := false, frameClaim := 0,
              ackReported := false, ceiling := 0, claim := 0, prevClaim := 0, prevAcked := false, parity := false,
              figures := { budget := none, share := none, headroom := none }, origin := 100, tripInput := levels.siteTrip,
              tripRepeat := 0, roundPhaseMs := Config.roundMs + Config.roundStaggerMs * straps.station.toNat }
      outA := OutletRecord.sampled straps.source levels.emergencyStop levels.feedbackA levels.plugA levels.pulseA
      outB := if straps.twoOutlets then
          OutletRecord.sampled straps.source levels.emergencyStop levels.feedbackB levels.plugB levels.pulseB
        else OutletRecord.absent
      estop := levels.emergencyStop
      stageTx := if straps.twoOutlets then [zero .a, zero .b] else [zero .a]
      nextId := 1
      ts := { bank0 := { tariff := none, bound := 0 }, bank1 := { tariff := none, bound := 0 }, active := none }
      sq := { queue := [], reserved := 0 }
      pk := { receiver := .hunt, gapTimer := false, command := .empty, response := .empty, hold := levels.hold, edge := 0,
              mask := 0x3FF, restartInput := s.pk.restartInput }
      pending := s.pending }

/-- CLOCK_TICK (R197): the second is raised; at 86,400 it becomes 0 and the day is raised, from 65,535 to 0. -/
def execClockTick (s : State) : Host.Outcome State Fault Refusal :=
  if s.cf.second + 1 < Config.daySeconds then .next { s with cf := { s.cf with second := s.cf.second + 1 } }
  else .next { s with cf := { s.cf with second := 0, day := (s.cf.day + 1) % Config.dayWrap } }

end Sys2Proof.Machine
end

