-- ==== Sys2Proof/Machine/Dispatch.lean ====
section
/-! DEFINITION. The dispatch: one arm for each command, each one call of its meaning. -/

namespace Sys2Proof.Machine

def exec (i : Instr) (s : State) : Host.Outcome State Fault Refusal :=
  match i with
  | .hardReset pins levels => Sys2Proof.Machine.execHardReset pins levels s
  | .clockTick => Sys2Proof.Machine.execClockTick s
  | .round => Sys2Proof.Machine.execRound s
  | .transmitStart => Sys2Proof.Machine.execTransmitStart s
  | .transmitComplete ackDominant => Sys2Proof.Machine.execTransmitComplete ackDominant s
  | .arbitrationLost cell => Sys2Proof.Machine.execArbitrationLost s cell
  | .numberClash cell => Sys2Proof.Machine.execNumberClash s cell
  | .txFault cell => Sys2Proof.Machine.execTxFault s cell
  | .framingError byte => Sys2Proof.Machine.execFramingError s byte
  | .lineStuck => Sys2Proof.Machine.execLineStuck s
  | .lineIdle => Sys2Proof.Machine.execLineIdle s
  | .frameEvaluation bytes => Sys2Proof.Machine.execFrameEvaluation bytes s
  | .holdTimerExpiry => Sys2Proof.Machine.execHoldTimerExpiry s
  | .siteTripAsserted => Sys2Proof.Machine.execSiteTripAsserted s
  | .siteTripReleased => Sys2Proof.Machine.execSiteTripReleased s
  | .stageMessageDiscarded why => Sys2Proof.Machine.execStageMessageDiscarded why s
  | .sample x voltage current voltageSaturated currentSaturated => Sys2Proof.Machine.execSample x voltage current voltageSaturated currentSaturated s
  | .settled x value => Sys2Proof.Machine.execSettled x value s
  | .orderTimerExpiry x => Sys2Proof.Machine.execOrderTimerExpiry x s
  | .feedbackClosed x => Sys2Proof.Machine.execFeedbackClosed x s
  | .feedbackOpen x => Sys2Proof.Machine.execFeedbackOpen x s
  | .contactorTimerExpiry x => Sys2Proof.Machine.execContactorTimerExpiry x s
  | .plugInserted x => Sys2Proof.Machine.execPlugInserted x s
  | .plugRemoved x => Sys2Proof.Machine.execPlugRemoved x s
  | .emergencyStopAsserted => Sys2Proof.Machine.execEmergencyStopAsserted s
  | .emergencyStopReleased => Sys2Proof.Machine.execEmergencyStopReleased s
  | .meterPulse x => Sys2Proof.Machine.execMeterPulse x s
  | .stageLost x => Sys2Proof.Machine.execStageLost x s
  | .noVehicle x => Sys2Proof.Machine.execNoVehicle x s
  | .idleMinute x => Sys2Proof.Machine.execIdleMinute x s
  | .commandFrameComplete last => Sys2Proof.Machine.execCommandFrameComplete last s
  | .linkBadLength length => Sys2Proof.Machine.execLinkBadLength length s
  | .linkStopBitError => Sys2Proof.Machine.execLinkStopBitError s
  | .linkGapTimeout => Sys2Proof.Machine.execLinkGapTimeout s
  | .responseSent => Sys2Proof.Machine.execResponseSent s
  | .holdReleased => Sys2Proof.Machine.execHoldReleased s
  | .holdAsserted => Sys2Proof.Machine.execHoldAsserted s
  | .unknownCommand code data => Sys2Proof.Machine.execUnknownCommand code data s
  | .configure data => Sys2Proof.Machine.execConfigure data s
  | .identify data => Sys2Proof.Machine.execIdentify data s
  | .setClock data => Sys2Proof.Machine.execSetClock data s
  | .restart data => Sys2Proof.Machine.execRestart data s
  | .loadTariff data => Sys2Proof.Machine.execLoadTariff data s
  | .openSession data => Sys2Proof.Machine.execOpenSession data s
  | .demand data => Sys2Proof.Machine.execDemand data s
  | .stopSession data => Sys2Proof.Machine.execStopSession data s
  | .readSession data => Sys2Proof.Machine.execReadSession data s
  | .setCurtail data => Sys2Proof.Machine.execSetCurtail data s
  | .siteHalt data => Sys2Proof.Machine.execSiteHalt data s
  | .readView data => Sys2Proof.Machine.execReadView data s
  | .readSettlement data => Sys2Proof.Machine.execReadSettlement data s
  | .releaseSettlement data => Sys2Proof.Machine.execReleaseSettlement data s
  | .readStatus data => Sys2Proof.Machine.execReadStatus data s
  | .clearCauses data => Sys2Proof.Machine.execClearCauses data s
  | .setMask data => Sys2Proof.Machine.execSetMask data s
  | .peerLeadCell edge => Sys2Proof.Machine.execPeerLeadCell s edge
  | .linkByteReceived byte => Sys2Proof.Machine.execLinkByteReceived byte s
  | .pulseInputReleased x => Sys2Proof.Machine.execPulseInputReleased x s

end Sys2Proof.Machine
end

