-- ==== Sys2Proof/Safety.lean ====
section
/-! DEFINITION. What counts as a safe state of the OS-418, in the terms that the statements use: the frames of the command
rows, a free pedestal link, and the laws that the manual says the part obeys at all times. -/

namespace Sys2Proof

/-- The code and the data of the command frame that a command row stands for (R185); absent for the other rows. -/
def Instr.commandFrame (i : Instr) : Option (Byte × List Byte) :=
  match i with
  | .configure d => some (0x10, d)
  | .identify d => some (0x11, d)
  | .setClock d => some (0x12, d)
  | .restart d => some (0x13, d)
  | .loadTariff d => some (0x20, d)
  | .openSession d => some (0x30, d)
  | .demand d => some (0x31, d)
  | .stopSession d => some (0x32, d)
  | .readSession d => some (0x33, d)
  | .setCurtail d => some (0x40, d)
  | .siteHalt d => some (0x41, d)
  | .readView d => some (0x42, d)
  | .readSettlement d => some (0x50, d)
  | .releaseSettlement d => some (0x51, d)
  | .readStatus d => some (0x60, d)
  | .clearCauses d => some (0x61, d)
  | .setMask d => some (0x62, d)
  | .unknownCommand code d => some (code, d)
  | .hardReset _ _ => none
  | .clockTick => none
  | .round => none
  | .transmitStart => none
  | .transmitComplete _ => none
  | .arbitrationLost _ => none
  | .numberClash _ => none
  | .txFault _ => none
  | .framingError _ => none
  | .lineStuck => none
  | .lineIdle => none
  | .frameEvaluation _ => none
  | .holdTimerExpiry => none
  | .siteTripAsserted => none
  | .siteTripReleased => none
  | .stageMessageDiscarded _ => none
  | .sample _ _ _ _ _ => none
  | .settled _ _ => none
  | .orderTimerExpiry _ => none
  | .feedbackClosed _ => none
  | .feedbackOpen _ => none
  | .contactorTimerExpiry _ => none
  | .plugInserted _ => none
  | .plugRemoved _ => none
  | .emergencyStopAsserted => none
  | .emergencyStopReleased => none
  | .meterPulse _ => none
  | .stageLost _ => none
  | .noVehicle _ => none
  | .idleMinute _ => none
  | .commandFrameComplete _ => none
  | .linkBadLength _ => none
  | .linkStopBitError => none
  | .linkGapTimeout => none
  | .responseSent => none
  | .holdReleased => none
  | .holdAsserted => none
  | .peerLeadCell _ => none
  | .linkByteReceived _ => none
  | .pulseInputReleased _ => none

/-- The outlet that an event of one outlet's lines, messages or timers names; absent for every other command. -/
def Instr.outletEvent (i : Instr) : Option Outlet :=
  match i with
  | .sample x _ _ _ _ => some x
  | .settled x _ => some x
  | .orderTimerExpiry x => some x
  | .feedbackClosed x => some x
  | .feedbackOpen x => some x
  | .contactorTimerExpiry x => some x
  | .plugInserted x => some x
  | .plugRemoved x => some x
  | .meterPulse x => some x
  | .stageLost x => some x
  | .noVehicle x => some x
  | .idleMinute x => some x
  | .pulseInputReleased x => some x
  | .hardReset _ _ => none
  | .clockTick => none
  | .round => none
  | .transmitStart => none
  | .transmitComplete _ => none
  | .arbitrationLost _ => none
  | .numberClash _ => none
  | .txFault _ => none
  | .framingError _ => none
  | .lineStuck => none
  | .lineIdle => none
  | .frameEvaluation _ => none
  | .holdTimerExpiry => none
  | .siteTripAsserted => none
  | .siteTripReleased => none
  | .stageMessageDiscarded _ => none
  | .emergencyStopAsserted => none
  | .emergencyStopReleased => none
  | .commandFrameComplete _ => none
  | .linkBadLength _ => none
  | .linkStopBitError => none
  | .linkGapTimeout => none
  | .responseSent => none
  | .holdReleased => none
  | .holdAsserted => none
  | .unknownCommand _ _ => none
  | .configure _ => none
  | .identify _ => none
  | .setClock _ => none
  | .restart _ => none
  | .loadTariff _ => none
  | .openSession _ => none
  | .demand _ => none
  | .stopSession _ => none
  | .readSession _ => none
  | .setCurtail _ => none
  | .siteHalt _ => none
  | .readView _ => none
  | .readSettlement _ => none
  | .releaseSettlement _ => none
  | .readStatus _ => none
  | .clearCauses _ => none
  | .setMask _ => none
  | .peerLeadCell _ => none
  | .linkByteReceived _ => none

/-- The byte that names an outlet in a command's data. -/
def Outlet.byte : Outlet → Byte
  | .a => 0
  | .b => 1

namespace Machine

/-! ## Frames on the park line -/

/-- A frame with a header byte, a payload and its good check (R4, R5). -/
def goodFrame (header : Byte) (payload : List Byte) : List Byte :=
  let covered := header :: BitVec.ofNat 8 payload.length :: payload
  covered ++ checkBytes covered

/-- LI receives a frame and may evaluate it (R6). -/
abbrev State.evaluates (s : State) : Prop := s.li.activity = .receiving ∧ s.se.state ≠ .barred

/-- The state t is s after a frame that LI accepted: the ack cell has been driven (R7). -/
def State.acked (s : State) : State :=
  { s with li := { s.li with activity := .quiet, ackDriven := true, recessive := 0, dominant := 1 } }

/-- The state t is s after a frame that LI rejected: the ack cell has been left alone (R7), and the recessive count is that of
the cells of the frame's bytes (R3). -/
abbrev Rejected (s t : State) (bytes : List Byte) : Prop :=
  t = { s with li := { s.li with
    activity := .quiet, ackDriven := false, recessive := runOf .recessive (frameCells bytes), dominant := 0 } }

/-- LI is as l but for a frame of the kind placed in its slot (R9): one of that kind on the line goes on with its old bytes, and counts
as replaced. -/
abbrev Placed (l m : LineInterface) (kind : FrameKind) (bytes : List Byte) : Prop :=
  (∀ j, m.slot j = if j = kind then some bytes else l.slot j) ∧
  (∀ k old replaced, l.activity = .sending k old replaced → m.activity = .sending k old (replaced || decide (k = kind))) ∧
  ((∀ k old replaced, l.activity ≠ .sending k old replaced) → m.activity = l.activity) ∧
  m.condition = l.condition ∧ m.recessive = l.recessive ∧ m.dominant = l.dominant ∧ m.lastFault = l.lastFault ∧
  m.ackDriven = l.ackDriven

/-- While LI sends these bytes it sends recessive in the data cell given after the header (R19). -/
abbrev ClashCell (s : State) (bytes : List Byte) (n : Nat) : Prop :=
  (∃ k r, s.li.activity = .sending k bytes r) ∧ 10 ≤ n ∧ n % 10 ≠ 9 ∧ (frameCells bytes)[n]? = some .recessive

/-! ## What the reading commands answer (R37, R148, R170, R190) -/

/-- The field of `len` bytes at the position `pos` of the data carries the value, most significant byte first. -/
abbrev Carries (data : List Byte) (pos len value : Nat) : Prop := (data.drop pos).take len = bytesOf len value

/-- The byte at the position carries the place of the value in a list of codes that starts at 0. -/
abbrev CarriesCode {α : Type} (data : List Byte) (pos : Nat) (codes : List α) (value : α) : Prop :=
  ∃ n, Carries data pos 1 n ∧ codes[n]? = some value

/-- The number whose bit i is the i-th flag. -/
def flagBits : List Bool → Nat
  | [] => 0
  | f :: rest => (if f = true then 1 else 0) + 2 * flagBits rest

/-- The outlet states in the order of their codes (R126). -/
def outletStateCodes : List OutletState :=
  [.vacant, .awaitPlug, .connecting, .energising, .suspended, .closing, .idle, .outOfService]

/-- The record stands at the position with the amount, in the layout of R170. -/
abbrev RecordAt (d : List Byte) (p : Nat) (r : SessionRecord) (amount : Nat) : Prop :=
  Carries d p 2 r.id ∧
  Carries d (p + 2) 1 (flagBits [decide (r.outlet = .b), decide (r.bank = .bank1), r.endReason.isSome, r.endTime.isSome]) ∧
  Carries d (p + 3) 1 (r.endReason.getD 0) ∧
  Carries d (p + 4) 1 (flagBits [r.flags.meterClamped, r.flags.meterDisagree, r.flags.capOverrun, r.flags.idleClamped,
    r.flags.clockStepped, r.flags.reduced, r.flags.halted, r.flags.weldSuspect]) ∧
  (d.drop (p + 5)).take 8 = r.auth ∧
  Carries d (p + 13) 2 r.tariffId ∧ Carries d (p + 15) 2 r.startDay ∧ Carries d (p + 17) 3 r.startSecond ∧
  Carries d (p + 20) 2 ((r.endTime.map Prod.fst).getD 0) ∧ Carries d (p + 22) 3 ((r.endTime.map Prod.snd).getD 0) ∧
  Carries d (p + 25) 3 r.billedWh ∧ Carries d (p + 28) 3 r.energyCap ∧ Carries d (p + 31) 4 r.costCap ∧
  Carries d (p + 35) 3 r.fee ∧ Carries d (p + 38) 2 r.idleMinutes ∧ Carries d (p + 40) 2 r.billedIdle ∧
  Carries d (p + 42) 5 r.idleFee ∧ Carries d (p + 47) 3 amount ∧ Carries d (p + 50) 1 r.lines.length ∧
  ∀ l ∈ r.lines.zipIdx, Carries d (p + 51 + 6 * l.2) 1 l.1.band ∧ Carries d (p + 52 + 6 * l.2) 3 l.1.wh ∧
    Carries d (p + 55 + 6 * l.2) 2 l.1.price

/-- The entry stands at the position, in the layout of R37. -/
abbrev EntryAt (d : List Byte) (p : Nat) (e : PeerEntry) : Prop :=
  Carries d p 1 e.station ∧ Carries d (p + 1) 1 (flagBits [e.joining, e.halted, e.parity, decide (3 ≤ e.age)]) ∧
  Carries d (p + 2) 1 e.age ∧ Carries d (p + 3) 1 e.weight ∧ Carries d (p + 4) 2 e.demand ∧ Carries d (p + 6) 2 e.ceiling ∧
  Carries d (p + 8) 2 e.claim ∧ Carries d (p + 10) 2 e.draw

/-- The curtail list with its own entry under the own number: station number and level (R29, R30, R37). -/
def State.curtailEntries (s : State) : List (Nat × Nat) :=
  s.pv.ownCurtail.toList.map (fun l => (s.ownStation, l)) ++ s.pv.curtail.map (fun e => (e.station, e.level))

/-- The station part of READ_STATUS (R190). -/
abbrev StationAt (d : List Byte) (s : State) : Prop :=
  Carries d 0 2 (2 * s.pk.edge.toNat + (if s.sq.queue = [] then 0 else 1)) ∧ Carries d 2 2 s.pk.mask.toNat ∧
  CarriesCode d 4 [ShareState.unconfigured, .joining, .sharing, .isolated, .barred] s.se.state ∧
  Carries d 5 1 s.se.timer ∧ Carries d 6 1 s.se.failed ∧ Carries d 7 2 s.se.cap ∧ Carries d 9 1 s.se.origin ∧
  Carries d 10 1 (flagBits [s.se.tripInput, s.estop, decide (0 < s.pv.hold), s.cf.config.isSome, s.cf.clockSet]) ∧
  Carries d 11 2 s.se.ceiling ∧ Carries d 13 2 s.se.claim ∧
  Carries d 15 1 (flagBits [s.se.figures.budget.isSome, s.se.figures.share.isSome, s.se.figures.headroom.isSome]) ∧
  Carries d 16 2 (s.se.figures.budget.getD 0) ∧ Carries d 18 2 (s.se.figures.share.getD 0) ∧
  Carries d 20 2 (s.se.figures.headroom.getD 0) ∧
  (∃ m n, Carries d 22 1 (m + 4 * n) ∧ [LineCondition.idle, .busy, .stuck][m]? = some s.li.condition ∧
    [LineFault.noFault, .txFault, .lineStuck, .strayStation][n]? = some s.li.lastFault) ∧
  Carries d 23 1 ((s.pv.haltRecord.map HaltRecord.reason).getD 0) ∧ Carries d 24 1 s.pv.hold ∧
  (∃ m, [none, some BankId.bank0, some .bank1][m]? = some s.ts.active ∧
    Carries d 25 1 (m + 4 * flagBits [s.ts.bank0.tariff.isSome, s.ts.bank1.tariff.isSome] + 16 * s.ts.bank0.bound +
      64 * s.ts.bank1.bound)) ∧
  Carries d 26 2 ((s.ts.bank0.tariff.map Tariff.id).getD 0) ∧ Carries d 28 2 ((s.ts.bank1.tariff.map Tariff.id).getD 0) ∧
  Carries d 30 1 s.sq.queue.length ∧ Carries d 31 1 s.sq.reserved ∧
  Carries d 32 2 ((s.sq.queue.head?.map fun e => e.record.id).getD 0) ∧ Carries d 34 2 s.cf.day ∧ Carries d 36 3 s.cf.second

/-- The outlet part of READ_STATUS for outlet x, at the position (R190). -/
abbrev OutletAt (d : List Byte) (p : Nat) (s : State) (x : Outlet) : Prop :=
  let o := s.outlet x
  let pulse := s.cf.straps.source = .pulse
  if s.fitted x = true then
    CarriesCode d p outletStateCodes o.sc.state ∧
    Carries d (p + 1) 1 (flagBits [true, o.sp.isConfirmed, decide (o.sp.orderTimer = .expired), o.sp.driveClosed,
      o.sp.feedbackClosed, o.sp.plugPresent, o.sp.pendingClose, o.mu.windowOpen]) ∧
    CarriesCode d (p + 2) [Contactor.isOpen, .closeWait, .closed, .openWait, .welded] o.sp.contactor ∧
    Carries d (p + 3) 2 o.sp.ordered ∧ Carries d (p + 5) 2 o.sp.confirmed ∧
    Carries d (p + 7) 2 (if o.sp.isConfirmed = true then o.sp.confirmed else max o.sp.confirmed o.sp.ordered) ∧
    Carries d (p + 9) 4 o.mu.residue ∧ Carries d (p + 13) 2 o.mu.lastDraw ∧ Carries d (p + 15) 1 o.mu.overdraw ∧
    Carries d (p + 16) 1 (flagBits [o.mu.silenceTimer, decide pulse && o.mu.pulseAsserted] +
      (if pulse then 4 * o.mu.disagree else 0)) ∧
    Carries d (p + 17) 2 (if pulse then o.mu.windowPulse else 0) ∧
    Carries d (p + 19) 2 (if pulse then min o.mu.windowSample 65535 else 0)
  else Carries d p 1 7 ∧ (d.drop (p + 1)).take 20 = List.replicate 20 0

/-! ## The pedestal link -/

/-- The link is free: no command waits and no response is in the part, so a command is taken at once (R182). -/
abbrev State.linkFree (s : State) : Prop := s.pk.command = .empty ∧ s.pk.response = .empty

/-- The state with a response formed (R183): HELD when HOLD is asserted, else SENDING. -/
def State.answered (s : State) (code status : Byte) (data : List Byte) : State :=
  let r : Response := { code := code, status := status, data := data }
  { s with pk := { s.pk with response := if s.pk.hold then .held r else .sending r } }

/-- The state after bytes received on the link one by one; it stays where it is should a byte not end in a next state. -/
def State.afterBytes (s : State) (bytes : List Byte) : State :=
  bytes.foldl (fun t b => match exec (.linkByteReceived b) t with
    | .next u => u
    | .fault _ => t
    | .refused _ => t) s

/-- The event of the link that an input is. -/
def LinkInput.event : LinkInput → Instr
  | .byte b => .linkByteReceived b
  | .stopBitError => .linkStopBitError
  | .gap => .linkGapTimeout

/-- The state after inputs of the link one by one; it stays where it is should one not end in a next state. -/
def State.afterInputs (s : State) (inputs : List LinkInput) : State :=
  inputs.foldl (fun t i => match exec i.event t with
    | .next u => u
    | .fault _ => t
    | .refused _ => t) s

/-- The command with the code and the data is taken in the step of c (R181 to R183): as a command row on a free link, by the byte
that completes its frame on one, or by the end of the response that it waits behind. -/
abbrev State.LetsIn (s : State) (c : Instr) (code : Byte) (data : List Byte) : Prop :=
  (s.linkFree ∧ c.commandFrame = some (code, data)) ∨
  (s.linkFree ∧ ∃ length kept last, s.pk.receiver = .body length kept ∧
    (c = .linkByteReceived last ∨ c = .commandFrameComplete last) ∧
    kept ++ [last] = code :: data ++ checkBytes (length :: code :: data)) ∨
  (c = .responseSent ∧ (∃ r, s.pk.response = .sending r) ∧ s.pk.command = .command code data)

/-! ## The laws of one outlet (R91, R95, R126) -/

/-- R91 and R95: the drive, the contactor timer, the pending close and the feedback follow the contactor state; the order timer
runs or has expired while the order is UNCONFIRMED, and does not run while it is CONFIRMED (R94, R105; log entry 27). -/
abbrev StageOutlet.Lawful (o : StageOutlet) : Prop :=
  (o.driveClosed = true ↔ o.contactor = .closeWait ∨ o.contactor = .closed) ∧
  (o.contactorTimer = true ↔ o.contactor = .closeWait ∨ o.contactor = .openWait) ∧
  (o.pendingClose = true → o.contactor = .openWait) ∧
  (o.contactor = .isOpen ∨ o.contactor = .closeWait → o.feedbackClosed = false) ∧
  (o.contactor = .closed ∨ o.contactor = .openWait → o.feedbackClosed = true) ∧
  (o.isConfirmed = false → o.orderTimer ≠ .stopped) ∧ (o.isConfirmed = true → o.orderTimer ≠ .running)

/-- Both outlets of the stage port obey R91 and R95. -/
abbrev State.StageLaw (s : State) : Prop := s.outA.sp.Lawful ∧ s.outB.sp.Lawful

/-- The contactor states in which an outlet state can stand (R95, R126, R138): none closed in a state without a drive, a close
under way or pending in CONNECTING, closed in ENERGISING, opening at the open step of CLOSING. -/
def contactorFits (st : OutletState) (step : ClosingStep) (c : Contactor) (pendingClose : Bool) : Bool :=
  match st, c with
  | .vacant, .isOpen => true
  | .awaitPlug, .isOpen => true
  | .idle, .isOpen => true
  | .connecting, .closeWait => true
  | .connecting, .openWait => pendingClose
  | .energising, .closed => true
  | .suspended, .isOpen => true
  | .suspended, .openWait => !pendingClose
  | .closing, .isOpen => decide (step = .rampDown)
  | .closing, .closeWait => decide (step = .rampDown)
  | .closing, .closed => decide (step = .rampDown)
  | .closing, .openWait => !pendingClose
  | .outOfService, .isOpen => true
  | .outOfService, .openWait => !pendingClose
  | .outOfService, .welded => true
  | _, _ => false

/-- R126, R130, R137, R138, R144: the session, its end reason and the timers follow the outlet state, and a ramp-down always has
an order of 0 that still waits for its confirmation. -/
abbrev OutletRecord.Lawful (o : OutletRecord) : Prop :=
  contactorFits o.sc.state o.sc.step o.sp.contactor o.sp.pendingClose = true ∧
  (o.sc.state = .vacant → o.sc.session = none) ∧
  (o.sc.state = .awaitPlug ∨ o.sc.state = .connecting ∨ o.sc.state = .energising ∨ o.sc.state = .suspended →
    o.sc.session.map SessionRecord.endReason = some none) ∧
  (o.sc.state = .closing ∨ o.sc.state = .idle →
    (o.sc.session.bind SessionRecord.endReason).isSome = true) ∧
  (o.sc.state = .outOfService → (o.sc.session.bind SessionRecord.endReason).isSome = o.sc.openCheck ∧
    o.sc.session.isSome = o.sc.openCheck ∧ (o.sc.openCheck = true → o.sp.contactor = .openWait)) ∧
  (o.sc.openCheck = true → o.sc.state = .outOfService) ∧
  (o.sc.awaitTimer = true ↔ o.sc.state = .awaitPlug) ∧
  (o.sc.idleTimer = true ↔ o.sc.state = .idle) ∧
  (o.mu.silenceTimer = true ↔ o.sc.state = .energising) ∧
  (o.mu.windowOpen = o.sc.session.isSome) ∧
  (o.sc.state = .closing ∧ o.sc.step = .rampDown → o.sp.ordered = 0 ∧ o.sp.orderTimer = .running)

/-- Both outlets obey the laws above, an outlet not fitted and every outlet while the emergency stop is asserted is
OUT_OF_SERVICE (R126, R145), and an outlet not fitted holds no record. -/
abbrev State.OutletLaw (s : State) : Prop :=
  s.StageLaw ∧ s.outA.Lawful ∧ s.outB.Lawful ∧
  (s.estop = true → s.outA.sc.state = .outOfService ∧ s.outB.sc.state = .outOfService) ∧
  (s.cf.straps.twoOutlets = false → s.outB.sc.state = .outOfService ∧ s.outB.sc.session = none)

/-! ## What an event of one outlet may touch, and how a session is stopped (R126, R138, R139, R146) -/

/-- Nothing but the records of outlet x, the SETPOINT messages sent, the tariff banks, the settlement queue and the attention
causes differs. -/
abbrev OnlyOutlet (s t : State) (x : Outlet) : Prop :=
  (∀ y, y ≠ x → t.outlet y = s.outlet y) ∧
  t = { s with outA := t.outA, outB := t.outB, stageTx := t.stageTx, ts := t.ts, sq := t.sq, pk := { s.pk with edge := t.pk.edge } }

/-- The SETPOINT messages once outlet x has been given an order of 0: one more, unless 0 stood already (R92). -/
def State.setpointsAfterZero (s : State) (x : Outlet) : List Setpoint :=
  if (s.outlet x).sp.ordered = 0 then s.stageTx else s.stageTx ++ [{ outlet := x, value := 0 }]

/-- The bank a record is bound to prices idle minutes (R138, R159). -/
def State.idlePriced (s : State) (r : SessionRecord) : Bool :=
  ((s.ts.bank r.bank).tariff.map fun t => decide (0 < t.idlePrice)).getD false

/-- The settlement record of a session settled at the clock of s (R146, R161, R169). -/
def State.settlementOf (s : State) (r : SessionRecord) : SettlementRecord :=
  { record := { r with
      endTime := some (s.cf.day, s.cf.second)
      flags := { r.flags with
        capOverrun := r.flags.capOverrun || decide (0 < r.costCap ∧ r.costCap * 10000 < r.total) } }
    amount := (r.total + 5000) / 10000 }

/-- Outlet x has settled the record r, and stands in the state given: the record is the queue's tail, the place reserved is used,
the bank unbound, the window closed, no session left (R146). -/
abbrev SettledAs (s t : State) (x : Outlet) (r : SessionRecord) (st : OutletState) : Prop :=
  t.sq = { queue := s.sq.queue ++ [s.settlementOf r], reserved := s.sq.reserved - 1 } ∧
  t.ts = s.ts.unbind r.bank ∧
  (t.outlet x).sc = SessionOutlet.afterReset st ∧
  (t.outlet x).mu = { (s.outlet x).mu with windowOpen := false, residue := 0, overdraw := 0, windowPulse := 0, windowSample := 0,
                                           disagree := 0, silenceTimer := false }

/-- The contactor of outlet x is opened at the open step of CLOSING, with the record r that has ended: IDLE when the plug is
present, the bank prices idle minutes and neither UNPLUGGED nor NUMBER_CLASH ended the session, else settled (R138, R139). A contactor
that is OPEN already is confirmed in the same way (log entry 21). -/
abbrev ClosingLeft (s t : State) (x : Outlet) (r : SessionRecord) : Prop :=
  (t.outlet x).sp.contactor = .isOpen ∧ (t.outlet x).sp.confirmed = 0 ∧ (t.outlet x).sp.isConfirmed = true ∧
  if (s.outlet x).sp.plugPresent = true ∧ s.idlePriced r = true ∧ r.endReason ≠ some 129 ∧ r.endReason ≠ some 139 then
    (t.outlet x).sc.state = .idle ∧ (t.outlet x).sc.idleTimer = true ∧ (t.outlet x).sc.session = some r ∧
    (t.outlet x).mu = { (s.outlet x).mu with silenceTimer := false } ∧ t.sq = s.sq ∧ t.ts = s.ts
  else SettledAs s t x r .vacant

/-- Outlet x's session r has been stopped by a quick stop (R139): ended with the reason, the order of 0 given, the drive
released; a contactor that reads open leaves CLOSING at once, any other is waited for. -/
abbrev QuickStopped (s t : State) (x : Outlet) (r : SessionRecord) (reason : Nat) : Prop :=
  OnlyOutlet s t x ∧ t.stageTx = s.setpointsAfterZero x ∧ t.isPending (Cause.ofOutlet x) = true ∧
  (t.outlet x).sp.feedbackClosed = (s.outlet x).sp.feedbackClosed ∧ (t.outlet x).sp.plugPresent = (s.outlet x).sp.plugPresent ∧
  (t.outlet x).sp.ordered = 0 ∧ (t.outlet x).sp.driveClosed = false ∧ (t.outlet x).sp.pendingClose = false ∧
  if (s.outlet x).sp.feedbackClosed = true then
    (t.outlet x).sp.contactor = .openWait ∧ (t.outlet x).sp.contactorTimer = true ∧
    (t.outlet x).sc.state = .closing ∧ (t.outlet x).sc.step = .openStep ∧
    (t.outlet x).sc.session = some { r with endReason := some reason } ∧
    (t.outlet x).mu = { (s.outlet x).mu with silenceTimer := false } ∧ t.sq = s.sq ∧ t.ts = s.ts
  else ClosingLeft s t x { r with endReason := some reason }

/-- Outlet x's session r has been stopped by an ordinary stop (R138) whose order of 0 is not confirmed yet: ended with the reason,
in the ramp-down, its contactor as it was. -/
abbrev RampingDown (s t : State) (x : Outlet) (r : SessionRecord) (reason : Nat) : Prop :=
  OnlyOutlet s t x ∧ t.stageTx = s.setpointsAfterZero x ∧ t.isPending (Cause.ofOutlet x) = true ∧ t.sq = s.sq ∧ t.ts = s.ts ∧
  (t.outlet x).sp.feedbackClosed = (s.outlet x).sp.feedbackClosed ∧ (t.outlet x).sp.plugPresent = (s.outlet x).sp.plugPresent ∧
  (t.outlet x).mu = { (s.outlet x).mu with silenceTimer := false } ∧
  (t.outlet x).sp.ordered = 0 ∧ (t.outlet x).sp.isConfirmed = false ∧ (t.outlet x).sp.pendingClose = false ∧
  (t.outlet x).sp.contactor = (s.outlet x).sp.contactor ∧
  (t.outlet x).sc.state = .closing ∧ (t.outlet x).sc.step = .rampDown ∧
  (t.outlet x).sc.session = some { r with endReason := some reason }

/-- Outlet x's session r has been stopped by an ordinary stop (R138): with the order of 0 already CONFIRMED the open step comes at
once, as in a quick stop; else the ramp-down waits. -/
abbrev OrdinaryStopped (s t : State) (x : Outlet) (r : SessionRecord) (reason : Nat) : Prop :=
  if (s.outlet x).sp.ordered = 0 ∧ ((s.outlet x).sp.isConfirmed = true ∨ (s.outlet x).sp.orderTimer = .expired) then
    QuickStopped s t x r reason
  else RampingDown s t x r reason

/-! ## The beginning and the end of a halt (R34, R78, R134, R135) -/

/-- SP's record once an order of 0 has been taken: a value that differs is recorded UNCONFIRMED and starts the timer (R92). -/
def StageOutlet.orderedZero (o : StageOutlet) : StageOutlet :=
  if o.ordered = 0 then o else { o with ordered := 0, isConfirmed := false, orderTimer := .running }

/-- A halt has begun at the two outlets: both have an order of 0, outlet A's SETPOINT first. CONNECTING and ENERGISING have gone
to SUSPENDED with HALTED and an open commanded: a contactor that reads closed is waited for, one that reads open is OPEN with
the order of 0 confirmed (R97, R99), where an order timer that has expired stays expired by the model's reading (DEDUCED: log
entry 27). Every other outlet state stays. -/
abbrev HaltSuspends (s t : State) : Prop :=
  t.stageTx = s.stageTx ++ (if s.outA.sp.ordered = 0 then [] else [{ outlet := .a, value := 0 }]) ++
    (if s.outB.sp.ordered = 0 then [] else [{ outlet := .b, value := 0 }]) ∧
  ∀ x, if (s.outlet x).sc.state = .connecting ∨ (s.outlet x).sc.state = .energising then
      (t.outlet x).sp = (if (s.outlet x).sp.feedbackClosed = true then
          { (s.outlet x).sp.orderedZero with
            contactor := .openWait, driveClosed := false, contactorTimer := true, pendingClose := false }
        else { (s.outlet x).sp.orderedZero with
            contactor := .isOpen, driveClosed := false, contactorTimer := false, confirmed := 0, isConfirmed := true
            orderTimer := if (s.outlet x).sp.orderedZero.orderTimer = .expired then .expired else .stopped }) ∧
      (t.outlet x).mu = { (s.outlet x).mu with silenceTimer := false } ∧
      (t.outlet x).sc = { (s.outlet x).sc with
        state := .suspended
        session := (s.outlet x).sc.session.map fun r => { r with flags := { r.flags with halted := true } } } ∧
      t.isPending (Cause.ofOutlet x) = true
    else (t.outlet x).sp = (s.outlet x).sp.orderedZero ∧ (t.outlet x).mu = (s.outlet x).mu ∧ (t.outlet x).sc = (s.outlet x).sc

/-- A halt has ended at outlet x: SUSPENDED with the plug present goes to CONNECTING with a close commanded, at once or behind the
open under way, or to CLOSING by an ordinary stop when a cap is reached; any other outlet stays (R135, R131). -/
abbrev HaltEnded (s t : State) (x : Outlet) : Prop :=
  OnlyOutlet s t x ∧
  ((s.outlet x).sc.state ≠ .suspended ∨ (s.outlet x).sp.plugPresent = false → t = s) ∧
  ((s.outlet x).sc.state = .suspended → (s.outlet x).sp.plugPresent = true → ∀ r, (s.outlet x).sc.session = some r →
    (r.capReached = none → t.stageTx = s.stageTx ∧ t.ts = s.ts ∧ t.sq = s.sq ∧ (t.outlet x).mu = (s.outlet x).mu ∧
      (t.outlet x).sc = { (s.outlet x).sc with state := .connecting } ∧
      (t.outlet x).sp = (if (s.outlet x).sp.contactor = .isOpen then
          { (s.outlet x).sp with contactor := .closeWait, driveClosed := true, contactorTimer := true }
        else { (s.outlet x).sp with pendingClose := true }) ∧
      t.isPending (Cause.ofOutlet x) = true) ∧
    (∀ reason, r.capReached = some reason → OrdinaryStopped s t x r reason))

/-! ## The own share (R45 to R49) -/

/-- R45: the peer entry takes part in the water-fill. -/
abbrev PeerEntry.Flexes (e : PeerEntry) : Prop :=
  e.age ≤ 2 ∧ e.joining = false ∧ e.halted = false ∧ 1 ≤ e.weight ∧ 1 ≤ e.demand

/-- R47: the remainder of E after the reservations of the fixed entries. -/
def remainder (budget : Nat) (ps : List PeerEntry) : Nat :=
  budget - ((ps.filter fun e => !decide e.Flexes).map fun e => max e.ceiling (max e.claim e.draw)).sum

/-- R49: in the ordered set the walk stops at the place j of the first member whose demand does not fit, or at the end. A member
before that place is given its demand, any other its part of the R and the W that stand there. -/
abbrev FairPart (R : Nat) (ms : List Member) (i : Nat) (m : Member) (part : Nat) : Prop :=
  ∃ j, j ≤ ms.length ∧
    (∀ n, n < j → ∀ a, ms[n]? = some a →
      a.q ≤ (R - ((ms.take n).map Member.q).sum) * a.w / ((ms.drop n).map Member.w).sum) ∧
    (∀ a, ms[j]? = some a → (R - ((ms.take j).map Member.q).sum) * a.w / ((ms.drop j).map Member.w).sum < a.q) ∧
    part = if i < j then m.q else (R - ((ms.take j).map Member.q).sum) * m.w / ((ms.drop j).map Member.w).sum

/-- R46 to R49: the own share. It is 0 without a weight or a demand, else the own part in the flexible set ordered by R48. -/
abbrev OwnShare (budget : Nat) (ps : List PeerEntry) (own : Member) (share : Nat) : Prop :=
  if own.w = 0 ∨ own.q = 0 then share = 0
  else ∃ ms i, ms.Perm (own :: (ps.filter fun e => decide e.Flexes).map fun e =>
      { station := e.station, q := e.demand, w := e.weight }) ∧
    ms.Pairwise (fun a b => a.q * b.w < b.q * a.w ∨ (a.q * b.w = b.q * a.w ∧ a.station < b.station)) ∧
    ms[i]? = some own ∧ FairPart (remainder budget ps) ms i own share

/-! ## The power of a sample -/

/-- The sample power of a SAMPLE's fields (R89, R109): a field flagged saturated, or above full scale, is read as full scale. -/
def samplePower (voltage current : BitVec 16) (voltageSaturated currentSaturated : Bool) : Nat :=
  (if voltageSaturated = true then 10000 else min voltage.toNat 10000) *
    (if currentSaturated = true then 6000 else min current.toNat 6000)

/-! ## The ranges of the meter unit, the clock and the counters (R69, R82, R108, R197) -/

/-- R108: the ranges of the meter unit's record. -/
abbrev MeterOutlet.InRange (m : MeterOutlet) : Prop :=
  m.residue < 36000000 ∧ m.overdraw ≤ 19 ∧ m.windowPulse < 1000 ∧ m.disagree ≤ 2

/-- R108, R197, R69, R71, R72 and R82: both meter records, the clock, the state timer, the failed-round count between two rounds
and the site-trip repeat count are in their ranges. -/
abbrev State.RangeLaw (s : State) : Prop :=
  s.outA.mu.InRange ∧ s.outB.mu.InRange ∧ s.cf.second < 86400 ∧ s.cf.day < 65536 ∧ s.se.timer ≤ 255 ∧ s.se.failed ≤ 2 ∧
  s.se.tripRepeat ≤ 3

/-! ## The law of the park: ceiling, claim and orders (R54, R58, R60) -/

/-- C is at most K, K at most P; C and K are 0 in UNCONFIGURED, in BARRED and while halted; JOINING holds C under its cap and
ISOLATED under F; the two orders together are at most C, and an order above 0 stands only in ENERGISING. -/
abbrev State.ShareLaw (s : State) : Prop :=
  s.se.ceiling ≤ s.se.claim ∧
  s.se.claim ≤ (s.cf.config.map Configuration.rated).getD 0 ∧
  (s.cf.config.map Configuration.fallback).getD 0 ≤ (s.cf.config.map Configuration.rated).getD 0 ∧
  (s.se.state = .unconfigured → s.cf.config = none) ∧
  (s.cf.config = none → s.se.state = .unconfigured ∨ s.se.state = .barred) ∧
  (s.se.state = .unconfigured ∨ s.se.state = .barred ∨ s.pv.isHalted = true → s.se.claim = 0) ∧
  (s.se.state = .joining → s.se.claim = s.se.ceiling ∧ s.se.ceiling ≤ s.se.cap ∧
    s.se.cap ≤ (s.cf.config.map Configuration.fallback).getD 0) ∧
  (s.se.state = .isolated → s.se.claim = s.se.ceiling ∧
    s.se.ceiling ≤ (s.cf.config.map Configuration.fallback).getD 0) ∧
  s.outA.sp.ordered + s.outB.sp.ordered ≤ s.se.ceiling ∧
  (s.outA.sp.ordered ≠ 0 → s.outA.sc.state = .energising) ∧
  (s.outB.sp.ordered ≠ 0 → s.outB.sc.state = .energising ∧ s.cf.straps.twoOutlets = true)

/-! ## The law of the peer view (R23, R26, R29, R30, R32, R33) -/

/-- One entry of the peer table: a peer's number, below N once configured, and every field in its range. -/
abbrev PeerEntry.Lawful (own : Nat) (config : Option Configuration) (e : PeerEntry) : Prop :=
  e.station < 32 ∧ e.station ≠ own ∧ (∀ k ∈ config, e.station < k.population) ∧ e.age < 8 ∧ e.weight ≤ 2 ∧
  e.demand ≤ 65535 ∧ e.ceiling ≤ 65535 ∧ e.claim ≤ 65535 ∧ e.draw ≤ 65535

/-- One peer entry of the curtail list. -/
abbrev CurtailEntry.Lawful (own : Nat) (config : Option Configuration) (e : CurtailEntry) : Prop :=
  e.station < 32 ∧ e.station ≠ own ∧ (∀ k ∈ config, e.station < k.population) ∧ e.age < 8 ∧ e.level ≤ 100

/-- The two tables are in strictly ascending station number with lawful entries, the own entry follows the own origin, and the
hold timer runs exactly while the hold is above 0. -/
abbrev State.ViewLaw (s : State) : Prop :=
  s.pv.peers.Pairwise (fun a b => a.station < b.station) ∧
  (∀ e ∈ s.pv.peers, e.Lawful s.ownStation s.cf.config) ∧
  s.pv.curtail.Pairwise (fun a b => a.station < b.station) ∧
  (∀ e ∈ s.pv.curtail, e.Lawful s.ownStation s.cf.config) ∧
  s.se.origin ≤ 100 ∧
  s.pv.ownCurtail = (if s.se.origin < 100 then some s.se.origin else none) ∧
  s.pv.hold ≤ 255 ∧ (s.pv.holdTimer = true ↔ 0 < s.pv.hold) ∧
  (∀ k ∈ s.cf.config, 1 ≤ k.tripSeconds ∧ k.tripSeconds ≤ 255)

/-! ## The law of the settlement queue and the tariff banks (R151, R155, R167) -/

/-- The open sessions, outlet A's first. -/
def State.openSessions (s : State) : List SessionRecord := s.outA.sc.session.toList ++ s.outB.sc.session.toList

/-- The number of open sessions bound to a bank. -/
def State.boundTo (s : State) (i : BankId) : Nat := (s.openSessions.filter fun r => r.bank == i).length

/-- The reserved count is the number of open sessions, which with the records queued is at most 16; the bound counts are the
sessions bound; the active bank and every bound bank is LOADED, a bound bank with the id and fee that the session took; no
session stands in VACANT, nor in OUT_OF_SERVICE without an open check. -/
abbrev State.QueueLaw (s : State) : Prop :=
  s.sq.reserved = s.openSessions.length ∧
  s.sq.queue.length + s.sq.reserved ≤ 16 ∧
  s.ts.bank0.bound = s.boundTo .bank0 ∧ s.ts.bank1.bound = s.boundTo .bank1 ∧
  (∀ i ∈ s.ts.active, (s.ts.bank i).tariff.isSome = true) ∧
  (∀ r ∈ s.openSessions, (s.ts.bank r.bank).tariff.map (fun t => (t.id, t.fee)) = some (r.tariffId, r.fee)) ∧
  (∀ x : Outlet, (s.outlet x).sc.state = .vacant ∨
    ((s.outlet x).sc.state = .outOfService ∧ (s.outlet x).sc.openCheck = false) → (s.outlet x).sc.session = none)

/-! ## The law of the bill (R142, R144, R158, R161) -/

/-- The figures of a record: the lines in strictly ascending band index, each costing its Wh times its price, the billed Wh their
sum and at most 2,000,000. -/
abbrev SessionRecord.Lawful (r : SessionRecord) : Prop :=
  r.lines.Pairwise (fun a b => a.band < b.band) ∧
  (∀ l ∈ r.lines, l.cost = l.wh * l.price) ∧
  r.billedWh = (r.lines.map BandLine.wh).sum ∧
  r.billedWh ≤ 2000000

/-- The prices of an open session are those of its bank: each line's price is its band's, and the idle fee is the billed idle
minutes times the idle price. -/
abbrev SessionRecord.PricedBy (r : SessionRecord) (t : Tariff) : Prop :=
  (∀ l ∈ r.lines, (t.bands[l.band]?).map Band.price = some l.price) ∧
  r.idleFee = r.billedIdle * t.idlePrice ∧ r.billedIdle ≤ t.idleMax

/-- R152: the first band starts at minute 0. -/
abbrev Tariff.StartsAtZero (t : Tariff) : Prop := t.bands.head?.map Band.start = some 0

/-- The law of the queue, and: both banks' tariffs start at minute 0, every open session's record is lawful and priced by its
bank, and every queued record is lawful and carries its total halved up. -/
abbrev State.BillLaw (s : State) : Prop :=
  s.QueueLaw ∧
  (∀ t ∈ s.ts.bank0.tariff, t.StartsAtZero) ∧ (∀ t ∈ s.ts.bank1.tariff, t.StartsAtZero) ∧
  (∀ r ∈ s.openSessions, r.Lawful ∧ ∀ t ∈ (s.ts.bank r.bank).tariff, r.PricedBy t) ∧
  (∀ e ∈ s.sq.queue, e.record.Lawful ∧ e.amount = (e.record.total + 5000) / 10000)

end Machine

end Sys2Proof
end

