-- ==== Sys2Proof/Certificates/Slice0/Obligations.lean ====
section
/-! DEFINITION. The statements for the provers, in the order of OBLIGATIONS.json. Each names the rules it formalises. Where a
docstring names a log entry, the clause it speaks of is the model's choice and not a rule of the manual. -/

open Sys2Proof Sys2Proof.Machine

/-! ## The queue, reset and the clock -/

/-- The command at the front of the queue is taken, and executed with the queue's rest. -/
def Obligations.StepTakesTheFirstCommand : Prop :=
  ∀ (c : Instr) (rest : List Instr) (s : State), step { s with pending := c :: rest } = exec c { s with pending := rest }

/-- R199 and the reset tables it names: HARD_RESET gives every block its values for the straps and levels sampled. The first
expiry of the round timer is R66's. The commands that wait are not the part's (log entry 5), and no rule gives the claim of the frame
last built (0 here) and the step of CLOSING (the ramp-down here) a value at reset: both are the model's choice (log entry 19). What the
link will bring during the next restart's work is the model's own and comes from outside (log entry 28). -/
def Obligations.HardResetValues : Prop :=
  ∀ (pins : StrapPins) (levels : InputLevels) (s : State), ∃ t, exec (.hardReset pins levels) s = .next t ∧
    t.cf = { straps := { station := pins.station
                         rate := if pins.rate = 0 then .low else if pins.rate = 2 then .high else .middle
                         source := if pins.source then .pulse else .sample
                         twoOutlets := pins.outlets }
             config := none, day := 0, second := 0, clockSet := false } ∧
    t.li.condition = .busy ∧ t.li.recessive = 0 ∧ t.li.dominant = 0 ∧ t.li.activity = .quiet ∧ (∀ k, t.li.slot k = none) ∧
    t.li.lastFault = .noFault ∧
    t.pv = { peers := [], curtail := [], ownCurtail := none, hold := 0, holdTimer := false, haltRecord := none } ∧
    t.se = { state := .unconfigured, timer := 0, failed := 0, cap := 0, frameBuilt := false, frameClaim := 0,
             ackReported := false, ceiling := 0, claim := 0, prevClaim := 0, prevAcked := false, parity := false,
             figures := { budget := none, share := none, headroom := none }, origin := 100, tripInput := levels.siteTrip,
             tripRepeat := 0, roundPhaseMs := 250 + 7 * pins.station.toNat } ∧
    t.outA.sp = { ordered := 0, confirmed := 0, isConfirmed := false, orderTimer := .running
                  contactor := if levels.feedbackA then .welded else .isOpen, driveClosed := false, contactorTimer := false
                  pendingClose := false, feedbackClosed := levels.feedbackA, plugPresent := levels.plugA } ∧
    t.outA.mu = { MeterOutlet.afterReset with pulseAsserted := pins.source && levels.pulseA } ∧
    t.outA.sc = SessionOutlet.afterReset (if levels.feedbackA || levels.emergencyStop then .outOfService else .vacant) ∧
    (pins.outlets = true →
      t.outB.sp = { ordered := 0, confirmed := 0, isConfirmed := false, orderTimer := .running
                    contactor := if levels.feedbackB then .welded else .isOpen, driveClosed := false, contactorTimer := false
                    pendingClose := false, feedbackClosed := levels.feedbackB, plugPresent := levels.plugB } ∧
      t.outB.mu = { MeterOutlet.afterReset with pulseAsserted := pins.source && levels.pulseB } ∧
      t.outB.sc = SessionOutlet.afterReset (if levels.feedbackB || levels.emergencyStop then .outOfService else .vacant) ∧
      t.stageTx = [{ outlet := .a, value := 0 }, { outlet := .b, value := 0 }]) ∧
    (pins.outlets = false →
      t.outB.sp.ordered = 0 ∧ t.outB.sp.confirmed = 0 ∧ t.outB.sp.driveClosed = false ∧
      t.outB.sc = SessionOutlet.afterReset .outOfService ∧ t.stageTx = [{ outlet := .a, value := 0 }]) ∧
    t.estop = levels.emergencyStop ∧ t.nextId = 1 ∧
    t.ts = { bank0 := { tariff := none, bound := 0 }, bank1 := { tariff := none, bound := 0 }, active := none } ∧
    t.sq = { queue := [], reserved := 0 } ∧
    t.pk = { receiver := .hunt, gapTimer := false, command := .empty, response := .empty, hold := levels.hold, edge := 0,
             mask := 0x3FF, restartInput := s.pk.restartInput } ∧
    t.pending = s.pending

/-- The state after reset obeys every law of Safety.lean. -/
def Obligations.ResetObeysTheLaws : Prop :=
  State.reset.OutletLaw ∧ State.reset.RangeLaw ∧ State.reset.ShareLaw ∧ State.reset.ViewLaw ∧ State.reset.BillLaw

/-- R197: each expiry of the one-second timer raises the second, which goes from 86,399 to 0 and raises the day, which goes from
65,535 to 0. -/
def Obligations.ClockTick : Prop :=
  ∀ s : State, s.cf.second < 86400 → s.cf.day < 65536 →
    exec .clockTick s = .next { s with cf := { s.cf with
      second := (s.cf.second + 1) % 86400
      day := if s.cf.second = 86399 then (s.cf.day + 1) % 65536 else s.cf.day } }

/-! ## The park line -/

/-- R10 and R3: an IDLE line, a station not BARRED, nothing being sent and a full slot start the frame of the first full slot in
the order of the kind codes, HALT before CURTAIL before ANNOUNCE; without them no transmission starts (log entry 1). R12 and R13: when the
ack cell is sampled, only an acknowledged frame that its slot still holds empties the slot, and only for ANNOUNCE is the acknowledgement
reported to the share engine; the cell counts are those of the frame's cells and the ack cell (R2, R3). -/
def Obligations.Transmission : Prop :=
  ∀ s : State,
    (s.li.condition = .idle → s.se.state ≠ .barred → s.li.activity = .quiet →
      ∀ (k : FrameKind) (bytes : List Byte), s.li.slot k = some bytes → (∀ j : FrameKind, j.code < k.code → s.li.slot j = none) →
        exec .transmitStart s = .next { s with li := { s.li with
          condition := .busy, recessive := 0, dominant := 1, activity := .sending k bytes false } }) ∧
    (s.li.condition ≠ .idle ∨ s.se.state = .barred ∨ s.li.activity ≠ .quiet ∨ (∀ k, s.li.slot k = none) →
      exec .transmitStart s = .next s) ∧
    (∀ (k : FrameKind) (bytes : List Byte) (replaced ack : Bool), s.li.activity = .sending k bytes replaced →
      ∃ t, exec (.transmitComplete ack) s = .next t ∧
        t = { s with li := t.li
                     se := { s.se with ackReported := s.se.ackReported || (ack && !replaced && decide (k = .announce)) } } ∧
        (∀ j, t.li.slot j = if ack = true ∧ replaced = false ∧ j = k then none else s.li.slot j) ∧
        t.li.recessive = (if ack = true then 0 else runOf .recessive (frameCells bytes) + 1) ∧
        t.li.dominant = (if ack = true then 1 else 0) ∧ t.li.activity = .quiet ∧ t.li.condition = s.li.condition ∧ t.li.lastFault = s.li.lastFault ∧
        t.li.ackDriven = s.li.ackDriven)

/-- R2: a byte takes a dominant lead cell, eight data cells, most significant bit first with 0 dominant and 1 recessive, and a recessive
tail cell; a frame's bytes follow without a gap; inside a frame no dominant run is above 9 cells and no recessive run above 9, or 10 with
an ack cell not driven. R3: the counts are the runs of consecutive cells. R11, R14 and R17: an attempt that is lost in a header cell sent
recessive, meets a dominant tail cell (a run of 1 to 10) or a driver fault in a cell sent dominant ends with every slot as it was; after a
loss LI receives the frame in progress, and a driver fault alone raises LINE, with TX_FAULT. A frame being received is abandoned by a
framing error too. R3, R15 and R16: sixteen dominant cells make the line STUCK, abandon the frame in progress and raise LINE with
LINE_STUCK once for the episode; eleven recessive cells make it IDLE; a dominant edge begins a frame on an IDLE line only, and elsewhere
a dominant cell restarts the recessive count. An event in a cell where it cannot occur changes nothing (log entry 1); a driver fault in
the header's lead cell begins the recessive count anew (log entry 7). -/
def Obligations.LineEvents : Prop :=
  (∀ b : Byte, byteCells b =
    .dominant :: (List.range 8).map (fun i => if b.getMsbD i = true then .recessive else .dominant) ++ [.recessive]) ∧
  (∀ (b : Byte) (rest : List Byte), frameCells (b :: rest) = byteCells b ++ frameCells rest) ∧ frameCells [] = [] ∧
  (∀ (c d : Cell) (cells : List Cell), runOf c (cells ++ [d]) = if d = c then runOf c cells + 1 else 0) ∧
  (∀ c, runOf c [] = 0) ∧
  (∀ (bytes : List Byte) (n : Nat), runOf .dominant ((frameCells bytes).take n) ≤ 9 ∧
    runOf .recessive ((frameCells bytes).take n) ≤ 9 ∧ runOf .recessive (frameCells bytes ++ [.recessive]) ≤ 10) ∧
  ∀ s : State,
    (∀ (k : FrameKind) (bytes : List Byte) (replaced : Bool), s.li.activity = .sending k bytes replaced →
      (∀ cell : Fin 8, (frameCells bytes)[1 + cell.val]? = some .recessive →
        exec (.arbitrationLost cell) s = .next { s with li := { s.li with
          activity := .receiving, recessive := 0
          dominant := runOf .dominant ((frameCells bytes).take (1 + cell.val)) + 1 } }) ∧
      (∀ cell : Nat, (frameCells bytes)[cell]? = some .dominant →
        exec (.txFault cell) s = .next { s with
          li := { s.li with activity := .quiet, recessive := runOf .recessive ((frameCells bytes).take cell) + 1, dominant := 0
                            lastFault := .txFault }
          pk := { s.pk with edge := s.pk.edge ||| 0x20 } })) ∧
    (∀ cell : Fin 8, (∀ k bytes replaced, s.li.activity = .sending k bytes replaced →
        (frameCells bytes)[1 + cell.val]? ≠ some .recessive) → exec (.arbitrationLost cell) s = .next s) ∧
    (∀ cell : Nat, (∀ k bytes replaced, s.li.activity = .sending k bytes replaced →
        (frameCells bytes)[cell]? ≠ some .dominant) → exec (.txFault cell) s = .next s) ∧
    (∀ byte : Byte, ∀ n, n = runOf .dominant ((byteCells byte).take 9) + 1 → 1 ≤ n ∧ n ≤ 10 ∧
      exec (.framingError byte) s = .next (if s.li.activity = .quiet then s
        else { s with li := { s.li with activity := .quiet, recessive := 0, dominant := n } })) ∧
    exec .lineStuck s = .next (if s.li.condition = .stuck then { s with li := { s.li with recessive := 0, dominant := 16 } }
      else { s with
        li := { s.li with condition := .stuck, activity := .quiet, recessive := 0, dominant := 16, lastFault := .lineStuck }
        pk := { s.pk with edge := s.pk.edge ||| 0x20 } }) ∧
    exec .lineIdle s = .next { s with li := { s.li with
      condition := .idle, activity := .quiet, recessive := 11, dominant := 0 } } ∧
    (s.li.condition = .idle →
      exec (.peerLeadCell true) s = .next { s with li := { s.li with
        condition := .busy, activity := .receiving, recessive := 0, dominant := 1 } } ∧
      exec (.peerLeadCell false) s = .next s) ∧
    (s.li.condition ≠ .idle → ∀ (edge : Bool) (n : Nat), n = (if edge = true then 1 else s.li.dominant + 1) →
      exec (.peerLeadCell edge) s = .next (if n < 16 ∨ s.li.condition = .stuck then
          { s with li := { s.li with recessive := 0, dominant := n } }
        else { s with
          li := { s.li with condition := .stuck, activity := .quiet, recessive := 0, dominant := n, lastFault := .lineStuck }
          pk := { s.pk with edge := s.pk.edge ||| 0x20 } }))

/-- R19, R20, R75 and R139: a clash, found by hearing or in a data cell after the header that LI sent recessive, bars the station from any
other share state. C, K and both orders are 0, the slots are empty, CLASH and SHARE are raised, and no outlet keeps a session that has not
ended: one whose feedback reads closed is in CLOSING at its open step with NUMBER_CLASH, one in AWAIT_PLUG or IDLE or with its contactor
found open has been settled with NUMBER_CLASH, outlet A's first, and its outlet is VACANT, and one that waits in OUT_OF_SERVICE for its
open check waits as before. In a cell where no clash can be found the command changes nothing (log entry 1). -/
def Obligations.NumberClash : Prop :=
  ∀ (s : State) (cell : Option Nat), s.OutletLaw →
    (s.se.state = .barred → exec (.numberClash cell) s = .next s) ∧
    (∀ n, cell = some n → (∀ bytes, ¬ ClashCell s bytes n) → exec (.numberClash cell) s = .next s) ∧
    (s.se.state ≠ .barred → (∀ n, cell = some n → ∃ bytes, ClashCell s bytes n) → ∃ t, exec (.numberClash cell) s = .next t ∧
      t = { s with li := t.li, se := t.se, outA := t.outA, outB := t.outB, stageTx := t.stageTx, ts := t.ts, sq := t.sq,
                   pk := { s.pk with edge := t.pk.edge } } ∧
      t.se = { s.se with state := .barred, ceiling := 0, claim := 0, timer := 0, failed := 0 } ∧
      t.li = { s.li with activity := .quiet, haltSlot := none, curtailSlot := none, announceSlot := none
                         recessive := t.li.recessive, dominant := t.li.dominant } ∧
      (∀ n bytes, cell = some n → ClashCell s bytes n →
        t.li.recessive = 0 ∧ t.li.dominant = runOf .dominant ((frameCells bytes).take n) + 1) ∧
      t.isPending .clash = true ∧ t.isPending .share = true ∧
      (∀ x, (t.outlet x).sp.ordered = 0) ∧
      (∀ x, (s.outlet x).sc.state = .outOfService → (t.outlet x).sc = (s.outlet x).sc) ∧
      (∀ x, (s.outlet x).sc.state ≠ .outOfService → (t.outlet x).sc.state = .vacant ∨
        ((t.outlet x).sc.state = .closing ∧ (t.outlet x).sc.step = .openStep ∧
          (t.outlet x).sc.session.bind SessionRecord.endReason = some 139)) ∧
      (∀ x r, (s.outlet x).sc.session = some r → (s.outlet x).sc.state ≠ .outOfService →
        if (s.outlet x).sp.feedbackClosed = true then
          (t.outlet x).sc.state = .closing ∧ (t.outlet x).sc.step = .openStep ∧ (t.outlet x).sp.contactor = .openWait ∧
          (t.outlet x).sc.session = some { r with endReason := some 139 } ∧
          (t.outlet x).mu = { (s.outlet x).mu with silenceTimer := false }
        else
          (t.outlet x).sc = SessionOutlet.afterReset .vacant ∧ (t.outlet x).sp.contactor = .isOpen ∧
          (t.outlet x).mu = { (s.outlet x).mu with windowOpen := false, residue := 0, overdraw := 0, windowPulse := 0
                                                   windowSample := 0, disagree := 0, silenceTimer := false }) ∧
      (∀ settled : List SessionRecord, settled = [Outlet.a, Outlet.b].filterMap (fun x =>
          if (s.outlet x).sc.state ≠ .outOfService ∧ (s.outlet x).sp.feedbackClosed = false then
            (s.outlet x).sc.session.map fun r => { r with endReason := some 139 }
          else none) →
        t.sq = { queue := s.sq.queue ++ settled.map s.settlementOf, reserved := s.sq.reserved - settled.length } ∧
        t.ts = settled.foldl (fun b r => b.unbind r.bank) s.ts))

/-- R4 to R8, R24, R25 and R29, from a sender's bytes to the tables: an ANNOUNCE or a CURTAIL that a station other than the own and below
N builds is accepted and acked. The ANNOUNCE's entry carries its fields at age 0, bits 0 and 1 of the flags byte, a weight above 2 read as
2 and bit 0 of the parity byte, and stands in the ascending order instead of the station's entry, with every other entry as before; so
does the CURTAIL's with its level, above 100 read as 100, and CURTAIL is raised exactly when the effective level is another than before
(R31). -/
def Obligations.SentFramesAreAccepted : Prop :=
  ∀ (s : State) (station : Nat), s.evaluates → station < 32 → station ≠ s.ownStation →
    (∀ k ∈ s.cf.config, station < k.population) →
    (∀ (flags weight parity : Byte) (q c k d : Nat), q < 65536 → c < 65536 → k < 65536 → d < 65536 →
      s.pv.peers.Pairwise (fun a b => a.station < b.station) →
      ∃ t, exec (.frameEvaluation (parkFrame .announce station
          (flags :: weight :: bytesOf 2 q ++ bytesOf 2 c ++ bytesOf 2 k ++ bytesOf 2 d ++ [parity]))) s = .next t ∧
        t = { s.acked with pv := { s.pv with peers := t.pv.peers } } ∧
        t.pv.peers.Pairwise (fun a b => a.station < b.station) ∧
        ∀ e, e ∈ t.pv.peers ↔
          e = { station := station, joining := flags.getLsbD 0, halted := flags.getLsbD 1, weight := min weight.toNat 2
                demand := q, ceiling := c, claim := k, draw := d, parity := parity.getLsbD 0, age := 0 } ∨
          (e ∈ s.pv.peers ∧ e.station ≠ station)) ∧
    (∀ level : Byte, s.pv.curtail.Pairwise (fun a b => a.station < b.station) →
      ∃ t, exec (.frameEvaluation (parkFrame .curtail station [level])) s = .next t ∧
        t = { s.acked with
          pv := { s.pv with curtail := t.pv.curtail }
          pk := { s.pk with edge := if t.pv.level = s.pv.level then s.pk.edge else s.pk.edge ||| 0x10 } } ∧
        t.pv.curtail.Pairwise (fun a b => a.station < b.station) ∧
        ∀ e, e ∈ t.pv.curtail ↔ e = { station := station, level := min level.toNat 100, age := 0 } ∨
          (e ∈ s.pv.curtail ∧ e.station ≠ station))

/-- R32, R34, R35 and R78: an accepted HALT is recorded with its source and reason byte, and the hold becomes the larger of what
remains and what it asks, a duration of 0 read as 1. While the station is halted already nothing else changes; else the halt begins:
HALT is raised, C, K and the orders are 0, and CONNECTING and ENERGISING go to SUSPENDED with an open commanded (R134). Where an open is
confirmed at once, R99 stops the order timer: that one which has expired stays expired is the model's reading (log entry 27). -/
def Obligations.HaltFrameAccepted : Prop :=
  ∀ (s : State) (station : Nat) (duration reason : Byte), s.evaluates → station < 32 → station ≠ s.ownStation →
    (∀ k ∈ s.cf.config, station < k.population) → s.OutletLaw →
    ∃ t, exec (.frameEvaluation (parkFrame .halt station [duration, reason])) s = .next t ∧
      t.pv.hold = max s.pv.hold (max 1 duration.toNat) ∧
      t.pv = { s.pv with haltRecord := some { source := station, reason := reason.toNat }
                         hold := t.pv.hold, holdTimer := s.pv.holdTimer || decide (s.pv.hold ≤ max 1 duration.toNat) } ∧
      (0 < s.pv.hold → t = { s.acked with pv := t.pv }) ∧
      (s.pv.hold = 0 →
        t = { s.acked with pv := t.pv, se := { s.se with ceiling := 0, claim := 0 }, outA := t.outA, outB := t.outB
                           stageTx := t.stageTx, pk := { s.pk with edge := t.pk.edge } } ∧
        t.isPending .halt = true ∧ HaltSuspends s t)

/-- R6, R18 and R19, test by test on a frame's bytes: a length above 16, a check that is not good, an undefined kind and a wrong
length are discarded without ack or cause; the own number is a clash, and does all that NUMBER_CLASH does, with the ack cell left alone;
a number at or above N raises LINE with STRAY_STATION. That the frame's evaluation itself performs the clash is the model's reading (log
entry 11). -/
def Obligations.FramesRejected : Prop :=
  ∀ (s : State) (header : Byte), s.evaluates →
    (∀ length : Byte, 16 < length.toNat → ∃ t, exec (.frameEvaluation [header, length]) s = .next t ∧
      Rejected s t [header, length]) ∧
    (∀ payload check : List Byte, payload.length ≤ 16 → check.length = 2 →
      check ≠ checkBytes (header :: BitVec.ofNat 8 payload.length :: payload) →
      ∃ t, exec (.frameEvaluation (header :: BitVec.ofNat 8 payload.length :: payload ++ check)) s = .next t ∧
        Rejected s t (header :: BitVec.ofNat 8 payload.length :: payload ++ check)) ∧
    (∀ payload : List Byte, payload.length ≤ 16 → 3 ≤ header.toNat / 32 →
      ∃ t, exec (.frameEvaluation (goodFrame header payload)) s = .next t ∧ Rejected s t (goodFrame header payload)) ∧
    (∀ (k : FrameKind) (payload : List Byte), payload.length ≤ 16 → header.toNat / 32 = k.code →
      (payload.length ≠ k.payloadLength →
        ∃ t, exec (.frameEvaluation (goodFrame header payload)) s = .next t ∧ Rejected s t (goodFrame header payload)) ∧
      (payload.length = k.payloadLength → header.toNat % 32 = s.ownStation →
        (∀ r, Rejected s r (goodFrame header payload) →
          exec (.frameEvaluation (goodFrame header payload)) s = exec (.numberClash none) r) ∧
        ∃ t, exec (.frameEvaluation (goodFrame header payload)) s = .next t ∧ t.se.state = .barred ∧ t.isPending .clash = true ∧
          t.li.ackDriven = false ∧ t.pv = s.pv) ∧
      (payload.length = k.payloadLength → header.toNat % 32 ≠ s.ownStation →
        (∃ c ∈ s.cf.config, c.population ≤ header.toNat % 32) →
        ∃ t, exec (.frameEvaluation (goodFrame header payload)) s = .next t ∧
          Rejected { s with li := { s.li with lastFault := .strayStation }, pk := { s.pk with edge := s.pk.edge ||| 0x20 } } t
            (goodFrame header payload)))

/-! ## Halts and the site trip -/

/-- R33, R135 and R131: an expiry lowers the remaining count; at 0 the timer stops and the halt ends, which takes each SUSPENDED outlet
with its plug present, outlet A first, to CONNECTING, its close carried out or held pending behind the open, or to CLOSING by an ordinary
stop when a cap is reached (with its contactor OPEN: log entry 21). An expiry of a stopped timer changes nothing (log entry 1). -/
def Obligations.HoldTimerExpiry : Prop :=
  ∀ s : State,
    (s.pv.holdTimer = false → exec .holdTimerExpiry s = .next s) ∧
    (s.pv.holdTimer = true → 1 < s.pv.hold →
      exec .holdTimerExpiry s = .next { s with pv := { s.pv with hold := s.pv.hold - 1 } }) ∧
    (s.pv.holdTimer = true → s.pv.hold ≤ 1 → s.OutletLaw → ∃ t u, exec .holdTimerExpiry s = .next t ∧
      HaltEnded { s with pv := { s.pv with hold := 0, holdTimer := false } } u .a ∧ HaltEnded u t .b)

/-- R82 and R85: an assertion of the site-trip input is a halt of the configured duration with reason 1, recorded under the own
number, whose frame stands in the HALT slot unless the station is BARRED, while a HALT on the line goes on with its old bytes and counts
as replaced (R9); before CONFIGURE only the level is kept (log entry 14). A
release sets the repeat count to 0 and nothing else. A level that the input has already is no change (log entry 1). A halt that begins
forces C, K and the orders to 0, raises HALT and suspends the outlets (R34, R78, R134); where that confirms an open at once, an order timer
that has expired stays expired by the model's reading (R99 says that it stops: log entry 27). -/
def Obligations.SiteTrip : Prop :=
  ∀ s : State,
    (s.se.tripInput = true → exec .siteTripAsserted s = .next s) ∧
    (s.se.tripInput = false → s.cf.config = none →
      exec .siteTripAsserted s = .next { s with se := { s.se with tripInput := true } }) ∧
    (s.se.tripInput = false → ∀ k, s.cf.config = some k → 1 ≤ k.tripSeconds → ∃ t, exec .siteTripAsserted s = .next t ∧
      t.pv = { s.pv with haltRecord := some { source := s.ownStation, reason := 1 }, hold := max s.pv.hold k.tripSeconds
                         holdTimer := s.pv.holdTimer || decide (s.pv.hold ≤ k.tripSeconds) } ∧
      (if s.se.state = .barred then t.li = s.li
        else Placed s.li t.li .halt (parkFrame .halt s.ownStation [BitVec.ofNat 8 k.tripSeconds, 1])) ∧
      t.se = { s.se with tripInput := true, tripRepeat := 0, ceiling := if s.pv.hold = 0 then 0 else s.se.ceiling
                         claim := if s.pv.hold = 0 then 0 else s.se.claim } ∧
      (0 < s.pv.hold → t = { s with pv := t.pv, li := t.li, se := t.se }) ∧
      (s.pv.hold = 0 → t = { s with pv := t.pv, li := t.li, se := t.se, outA := t.outA, outB := t.outB, stageTx := t.stageTx
                                    pk := { s.pk with edge := t.pk.edge } } ∧
        t.isPending .halt = true ∧ (∀ x, (t.outlet x).sp.ordered = 0) ∧ (s.OutletLaw → HaltSuspends s t))) ∧
    exec .siteTripReleased s = .next (if s.se.tripInput = true then
      { s with se := { s.se with tripInput := false, tripRepeat := 0 } } else s)

/-! ## The stage port -/

/-- R89 and R93: a discarded message changes nothing. A SETTLED that matches an UNCONFIRMED order confirms it and stops its timer,
and in the ramp-down of CLOSING it leads to the open step (R138; at a contactor OPEN already: log entry 21); any other SETTLED changes
nothing. An order timer that had expired on the order has expired on it all the same (R93, R105; log entry 27). -/
def Obligations.StageMessages : Prop :=
  ∀ (s : State) (x : Outlet) (value : BitVec 16),
    (∀ why, exec (.stageMessageDiscarded why) s = .next s) ∧
    (s.fitted x = false ∨ value.toNat ≠ (s.outlet x).sp.ordered ∨ (s.outlet x).sp.isConfirmed = true →
      exec (.settled x value) s = .next s) ∧
    (s.fitted x = true → value.toNat = (s.outlet x).sp.ordered → (s.outlet x).sp.isConfirmed = false →
      ((s.outlet x).sc.state ≠ .closing ∨ (s.outlet x).sc.step ≠ .rampDown →
        exec (.settled x value) s = .next (s.modSp x fun o =>
          { o with confirmed := value.toNat, isConfirmed := true
                   orderTimer := if o.orderTimer = .expired then .expired else .stopped })) ∧
      (s.OutletLaw → (s.outlet x).sc.state = .closing → (s.outlet x).sc.step = .rampDown →
        ∀ r, (s.outlet x).sc.session = some r → ∃ t, exec (.settled x value) s = .next t ∧ OnlyOutlet s t x ∧
          t.stageTx = s.stageTx ∧ (t.outlet x).sp.ordered = 0 ∧ (t.outlet x).sp.confirmed = 0 ∧ (t.outlet x).sp.isConfirmed = true ∧
          (t.outlet x).sp.orderTimer = .stopped ∧ (t.outlet x).sp.driveClosed = false ∧
          if (s.outlet x).sp.feedbackClosed = true then
            (t.outlet x).sp.contactor = .openWait ∧ (t.outlet x).sc = { (s.outlet x).sc with step := .openStep } ∧
            t.sq = s.sq ∧ t.ts = s.ts
          else ClosingLeft s t x r))

/-- R94, R139 and R140: an expiry that finds the order timer running leaves the order UNCONFIRMED. In CONNECTING, ENERGISING and
SUSPENDED it ends the session by a quick stop with STAGE_FAULT; in the ramp-down of CLOSING it leads to the open step with the end
reason kept (either at a contactor OPEN already: log entry 21); elsewhere it affects no session. An expiry of a timer that does not run
changes nothing (log entry 1). -/
def Obligations.OrderTimerExpiry : Prop :=
  ∀ (s : State) (x : Outlet), s.OutletLaw →
    ((s.outlet x).sp.orderTimer ≠ .running → exec (.orderTimerExpiry x) s = .next s) ∧
    ((s.outlet x).sp.orderTimer = .running → ∀ u, u = s.modSp x (fun o => { o with orderTimer := .expired }) →
      ((s.outlet x).sc.state.running = false → ¬ ((s.outlet x).sc.state = .closing ∧ (s.outlet x).sc.step = .rampDown) →
        exec (.orderTimerExpiry x) s = .next u) ∧
      (∀ r, (s.outlet x).sc.state.running = true → (s.outlet x).sc.session = some r →
        ∃ t, exec (.orderTimerExpiry x) s = .next t ∧ QuickStopped u t x r 134) ∧
      (∀ r, (s.outlet x).sc.state = .closing → (s.outlet x).sc.step = .rampDown → (s.outlet x).sc.session = some r →
        ∃ t, exec (.orderTimerExpiry x) s = .next t ∧ OnlyOutlet s t x ∧ t.stageTx = s.stageTx ∧
          if (s.outlet x).sp.feedbackClosed = true then
            (t.outlet x).sp.contactor = .openWait ∧ (t.outlet x).sp.orderTimer = .expired ∧
            (t.outlet x).sc = { (s.outlet x).sc with step := .openStep } ∧ t.sq = s.sq ∧ t.ts = s.ts
          else ClosingLeft s t x r))

/-- R98 and R132: a closed feedback completes a close, and a CONNECTING outlet goes to ENERGISING with its silence timer running;
in CLOSING the ramp-down goes on (R140). In OPEN it is a weld suspicion (R100, R141): WELDED, and OUT_OF_SERVICE with any session
settled, flagged WELD_SUSPECT, and ended with CONTACTOR_FAULT unless it had ended. Elsewhere the level is recorded. At a feedback that
reads closed already the event changes nothing (log entry 1). -/
def Obligations.FeedbackClosed : Prop :=
  ∀ (s : State) (x : Outlet), s.OutletLaw →
    (s.fitted x = false ∨ (s.outlet x).sp.feedbackClosed = true → exec (.feedbackClosed x) s = .next s) ∧
    (s.fitted x = true → (s.outlet x).sp.feedbackClosed = false →
      ((s.outlet x).sp.contactor = .welded →
        exec (.feedbackClosed x) s = .next (s.modSp x fun o => { o with feedbackClosed := true })) ∧
      ((s.outlet x).sp.contactor = .closeWait → ∃ t, exec (.feedbackClosed x) s = .next t ∧ OnlyOutlet s t x ∧
        t.stageTx = s.stageTx ∧ t.ts = s.ts ∧ t.sq = s.sq ∧
        (t.outlet x).sp = { (s.outlet x).sp with feedbackClosed := true, contactor := .closed, contactorTimer := false } ∧
        (if (s.outlet x).sc.state = .connecting then
          (t.outlet x).sc = { (s.outlet x).sc with state := .energising } ∧ (t.outlet x).mu.silenceTimer = true ∧
          t.isPending (Cause.ofOutlet x) = true
        else (t.outlet x).sc = (s.outlet x).sc ∧ t = s.modSp x (fun _ => (t.outlet x).sp))) ∧
      ((s.outlet x).sp.contactor = .isOpen → ∃ t, exec (.feedbackClosed x) s = .next t ∧ OnlyOutlet s t x ∧
        (t.outlet x).sp.contactor = .welded ∧ (t.outlet x).sp.ordered = (s.outlet x).sp.ordered ∧
        (t.outlet x).sp.confirmed = (s.outlet x).sp.confirmed ∧ (t.outlet x).sp.isConfirmed = (s.outlet x).sp.isConfirmed ∧
        (t.outlet x).sc.state = .outOfService ∧ (t.outlet x).sc.session = none ∧
        ∀ r, (s.outlet x).sc.session = some r → SettledAs s t x
          { r with endReason := if (s.outlet x).sc.state = .awaitPlug ∨ (s.outlet x).sc.state.running = true then some 136
                     else r.endReason
                   flags := { r.flags with weldSuspect := true } } .outOfService))

/-- R99 and R100: an open feedback confirms the open that is waited for: the contactor is OPEN, the confirmed ceiling 0 and an order
of 0 CONFIRMED. CLOSING is then left, an open check settled; SUSPENDED and an outlet held OUT_OF_SERVICE by the emergency stop stay;
a close held pending is carried out. In CLOSED it is a CONTACTOR_DROP. In WELDED the level is recorded. At a feedback that reads open
already the event changes nothing (log entry 1). -/
def Obligations.FeedbackOpen : Prop :=
  ∀ (s : State) (x : Outlet), s.OutletLaw →
    (s.fitted x = false ∨ (s.outlet x).sp.feedbackClosed = false → exec (.feedbackOpen x) s = .next s) ∧
    (s.fitted x = true → (s.outlet x).sp.feedbackClosed = true →
      ((s.outlet x).sp.contactor = .welded →
        exec (.feedbackOpen x) s = .next (s.modSp x fun o => { o with feedbackClosed := false })) ∧
      ((s.outlet x).sp.contactor = .openWait → ∃ t, exec (.feedbackOpen x) s = .next t ∧ OnlyOutlet s t x ∧
        t.stageTx = s.stageTx ∧ (t.outlet x).sp.confirmed = 0 ∧
        ((s.outlet x).sp.ordered = 0 → (t.outlet x).sp.isConfirmed = true) ∧
        ((s.outlet x).sc.state = .connecting →
          (t.outlet x).sp.contactor = .closeWait ∧ (t.outlet x).sp.driveClosed = true ∧ (t.outlet x).sc = (s.outlet x).sc) ∧
        ((s.outlet x).sc.state = .suspended →
          (t.outlet x).sp.contactor = .isOpen ∧ (t.outlet x).sc = (s.outlet x).sc) ∧
        ((s.outlet x).sc.state = .closing → ∀ r, (s.outlet x).sc.session = some r → (s.outlet x).sp.ordered = 0 →
          ClosingLeft s t x r) ∧
        ((s.outlet x).sc.state = .outOfService → (t.outlet x).sp.contactor = .isOpen ∧
          (∀ r, (s.outlet x).sc.session = some r →
            SettledAs s t x r (if s.estop = true then .outOfService else .vacant)) ∧
          ((s.outlet x).sc.session = none →
            (t.outlet x).sc = { (s.outlet x).sc with state := if s.estop = true then .outOfService else .vacant }))) ∧
      ((s.outlet x).sp.contactor = .closed → ∀ r, (s.outlet x).sc.session = some r →
        ∃ t, exec (.feedbackOpen x) s = .next t ∧ OnlyOutlet s t x ∧ t.stageTx = s.setpointsAfterZero x ∧
          (t.outlet x).sp.ordered = 0 ∧ (t.outlet x).sp.driveClosed = false ∧
          ClosingLeft s t x (if (s.outlet x).sc.state = .energising then { r with endReason := some 137 } else r)))

/-- R98 and R99: the contactor timer runs in CLOSE_WAIT and OPEN_WAIT only. Its expiry in CLOSE_WAIT finds the contactor OPEN, and
ends a CONNECTING session with CONTACTOR_FAULT or a ramp-down (R139, R140); in OPEN_WAIT it is a weld suspicion, as in R141. An expiry
of a stopped timer changes nothing (log entry 1). -/
def Obligations.ContactorTimerExpiry : Prop :=
  ∀ (s : State) (x : Outlet), s.OutletLaw →
    ((s.outlet x).sp.contactorTimer = false → exec (.contactorTimerExpiry x) s = .next s) ∧
    ((s.outlet x).sp.contactor = .closeWait → (s.outlet x).sp.ordered = 0 → ∀ r, (s.outlet x).sc.session = some r →
      ∃ t, exec (.contactorTimerExpiry x) s = .next t ∧ OnlyOutlet s t x ∧ t.stageTx = s.stageTx ∧
        (t.outlet x).sp.driveClosed = false ∧ (t.outlet x).sp.contactorTimer = false ∧
        ClosingLeft s t x (if (s.outlet x).sc.state = .connecting then { r with endReason := some 136 } else r)) ∧
    ((s.outlet x).sp.contactor = .openWait → ∃ t, exec (.contactorTimerExpiry x) s = .next t ∧ OnlyOutlet s t x ∧
      (t.outlet x).sp = { (s.outlet x).sp with contactor := .welded, contactorTimer := false, pendingClose := false } ∧
      (t.outlet x).sc.state = .outOfService ∧ (t.outlet x).sc.session = none ∧
      ∀ r, (s.outlet x).sc.session = some r → SettledAs s t x
        { r with endReason := if (s.outlet x).sc.state.running = true then some 136 else r.endReason
                 flags := { r.flags with weldSuspect := true } } .outOfService)

/-- R102, R128, R130 and R131: an insertion is recorded, and in AWAIT_PLUG it stops the await timer and takes the outlet to SUSPENDED
with HALTED while the station is halted, to CONNECTING with a close commanded when no cap is reached, and else to CLOSING with the
cap's reason, whose open finds the contactor OPEN (log entry 21). At a plug that is present already the event changes nothing (log
entry 1). -/
def Obligations.PlugInserted : Prop :=
  ∀ (s : State) (x : Outlet), s.OutletLaw →
    (s.fitted x = false ∨ (s.outlet x).sp.plugPresent = true → exec (.plugInserted x) s = .next s) ∧
    (s.fitted x = true → (s.outlet x).sp.plugPresent = false →
      ((s.outlet x).sc.state ≠ .awaitPlug →
        exec (.plugInserted x) s = .next (s.modSp x fun o => { o with plugPresent := true })) ∧
      ((s.outlet x).sc.state = .awaitPlug → ∀ r, (s.outlet x).sc.session = some r →
        ∃ t, exec (.plugInserted x) s = .next t ∧ OnlyOutlet s t x ∧ (t.outlet x).sp.plugPresent = true ∧
          (t.outlet x).sc.awaitTimer = false ∧
          (s.pv.isHalted = true → t.sq = s.sq ∧ t.ts = s.ts ∧ t.stageTx = s.stageTx ∧
            (t.outlet x).sp.contactor = .isOpen ∧ (t.outlet x).sc.state = .suspended ∧
            (t.outlet x).sc.session = some { r with flags := { r.flags with halted := true } }) ∧
          (s.pv.isHalted = false → r.capReached = none → t.sq = s.sq ∧ t.ts = s.ts ∧ t.stageTx = s.stageTx ∧
            (t.outlet x).sp.contactor = .closeWait ∧ (t.outlet x).sp.driveClosed = true ∧
            (t.outlet x).sp.contactorTimer = true ∧ (t.outlet x).sc.state = .connecting ∧
            (t.outlet x).sc.session = some r) ∧
          (s.pv.isHalted = false → ∀ reason, r.capReached = some reason →
            OrdinaryStopped ((s.modSp x fun o => { o with plugPresent := true }).modSc x fun c => { c with awaitTimer := false })
              t x r reason)))

/-- R102, R139, R140 and R144: a removal is recorded. In CONNECTING, ENERGISING and SUSPENDED it is a quick stop with UNPLUGGED, in
the ramp-down of CLOSING it leads to the open step with the end reason kept (either at a contactor OPEN already: log entry 21), and from
IDLE it settles the session. At a plug that is absent already the event changes nothing (log entry 1). -/
def Obligations.PlugRemoved : Prop :=
  ∀ (s : State) (x : Outlet), s.OutletLaw →
    (s.fitted x = false ∨ (s.outlet x).sp.plugPresent = false → exec (.plugRemoved x) s = .next s) ∧
    (s.fitted x = true → (s.outlet x).sp.plugPresent = true →
      ∀ u, u = s.modSp x (fun o => { o with plugPresent := false }) →
      ((s.outlet x).sc.state = .vacant ∨ (s.outlet x).sc.state = .awaitPlug ∨ (s.outlet x).sc.state = .outOfService ∨
        ((s.outlet x).sc.state = .closing ∧ (s.outlet x).sc.step = .openStep) → exec (.plugRemoved x) s = .next u) ∧
      (∀ r, (s.outlet x).sc.session = some r →
        ((s.outlet x).sc.state.running = true → ∃ t, exec (.plugRemoved x) s = .next t ∧ QuickStopped u t x r 129) ∧
        ((s.outlet x).sc.state = .closing → (s.outlet x).sc.step = .rampDown →
          ∃ t, exec (.plugRemoved x) s = .next t ∧ OnlyOutlet s t x ∧ t.stageTx = s.stageTx ∧
            if (s.outlet x).sp.feedbackClosed = true then
              (t.outlet x).sp.contactor = .openWait ∧ (t.outlet x).sp.driveClosed = false ∧
              (t.outlet x).sc = { (s.outlet x).sc with step := .openStep } ∧ t.sq = s.sq ∧ t.ts = s.ts
            else SettledAs u t x r .vacant) ∧
        ((s.outlet x).sc.state = .idle → ∃ t, exec (.plugRemoved x) s = .next t ∧ OnlyOutlet s t x ∧
          SettledAs u t x r .vacant ∧ (t.outlet x).sp = (u.outlet x).sp ∧ t.isPending (Cause.ofOutlet x) = true)))

/-- R103, R104 and R145: an assertion gives both outlets an order of 0, releases their drives and takes every outlet OUT_OF_SERVICE;
a session is ended with EMERGENCY_STOP, and left open only while its contactor still has to open (a feedback that reads open confirms
the open before the session is looked at: log entry 15); any other is settled behind the records queued, outlet A's first, its place used
and its bank unbound (R146). A repeated assertion is no new event. A release takes to VACANT each
fitted outlet whose contactor is OPEN, its ceiling record as it was, or WELDED with an open feedback, its confirmed ceiling 0 and its
order of 0 CONFIRMED (R99), and no other; on a released input it changes nothing (log entry 1). R99 stops the order timer of a confirmed
order: that one which has expired stays expired is the model's reading (log entry 27). -/
def Obligations.EmergencyStop : Prop :=
  ∀ s : State, s.OutletLaw →
    (s.estop = true → exec .emergencyStopAsserted s = .next s) ∧
    (s.estop = false → ∃ t, exec .emergencyStopAsserted s = .next t ∧
      t = { s with estop := true, outA := t.outA, outB := t.outB, stageTx := t.stageTx, ts := t.ts, sq := t.sq
                   pk := { s.pk with edge := t.pk.edge } } ∧
      t.stageTx = s.stageTx ++ (if s.outA.sp.ordered = 0 then [] else [{ outlet := .a, value := 0 }]) ++
        (if s.fitted .b = false ∨ s.outB.sp.ordered = 0 then [] else [{ outlet := .b, value := 0 }]) ∧
      ∀ x, (t.outlet x).sc.state = .outOfService ∧ (t.outlet x).sp.driveClosed = false ∧
        (s.fitted x = true → (t.outlet x).sp.ordered = 0) ∧
        (t.outlet x).sc.session.isSome = (t.outlet x).sc.openCheck ∧
        ((s.outlet x).sc.session.isSome = true →
          ((t.outlet x).sc.openCheck = true ↔ (s.outlet x).sp.feedbackClosed = true) ∧
          ((t.outlet x).sc.openCheck = true → (t.outlet x).sp.contactor = .openWait ∧
            (t.outlet x).sc.session = (s.outlet x).sc.session.map fun r => { r with endReason := some 138 }) ∧
          ((t.outlet x).sc.openCheck = false → (t.outlet x).sc = SessionOutlet.afterReset .outOfService ∧
            (t.outlet x).mu = { (s.outlet x).mu with windowOpen := false, residue := 0, overdraw := 0, windowPulse := 0
                                                     windowSample := 0, disagree := 0, silenceTimer := false } ∧
            ∃ e ∈ t.sq.queue, e.record.endReason = some 138 ∧
              some e.record.id = (s.outlet x).sc.session.map SessionRecord.id))) ∧
    (s.estop = false → ∀ settled : List SessionRecord, settled = [Outlet.a, Outlet.b].filterMap (fun x =>
        if (s.outlet x).sp.feedbackClosed = false then (s.outlet x).sc.session.map fun r => { r with endReason := some 138 }
        else none) →
      ∃ t, exec .emergencyStopAsserted s = .next t ∧
        t.sq = { queue := s.sq.queue ++ settled.map s.settlementOf, reserved := s.sq.reserved - settled.length } ∧
        t.ts = settled.foldl (fun b r => b.unbind r.bank) s.ts) ∧
    (s.estop = false → exec .emergencyStopReleased s = .next s) ∧
    (s.estop = true → ∃ t, exec .emergencyStopReleased s = .next t ∧
      t = { s with estop := false, outA := t.outA, outB := t.outB, pk := { s.pk with edge := t.pk.edge } } ∧
      ∀ x, if s.fitted x = true ∧ ((s.outlet x).sp.contactor = .isOpen ∨
          ((s.outlet x).sp.contactor = .welded ∧ (s.outlet x).sp.feedbackClosed = false)) then
        (t.outlet x).sc = { (s.outlet x).sc with state := .vacant } ∧ (t.outlet x).sp.contactor = .isOpen ∧
          (t.outlet x).mu = { (s.outlet x).mu with silenceTimer := false } ∧
          ((s.outlet x).sp.contactor = .isOpen → (t.outlet x).sp = (s.outlet x).sp) ∧
          ((s.outlet x).sp.contactor = .welded → (s.outlet x).sp.ordered = 0 → (t.outlet x).sp = { (s.outlet x).sp with
            contactor := .isOpen, confirmed := 0, isConfirmed := true
            orderTimer := if (s.outlet x).sp.orderTimer = .expired then .expired else .stopped }) ∧
          t.isPending (Cause.ofOutlet x) = true
      else t.outlet x = s.outlet x)

/-! ## The meter unit and the session timers -/

/-- R109 to R111, R113, R118 and R119: every SAMPLE of a fitted outlet enters the round sum; with the window CLOSED or the feedback
open it is not counted, and the overdraw count becomes 0. A counting sample loses no energy: the residue after it and the Wh it carries
make up the residue before it and its power, and under SAMPLE the Wh carried are the rise of the billed Wh, up to the energy limit, under
PULSE that of the window sample energy. A sample of an outlet not fitted is discarded. -/
def Obligations.SampleMetering : Prop :=
  ∀ (s : State) (x : Outlet) (v i : BitVec 16) (vs is : Bool) (p : Nat), p = samplePower v i vs is →
    (s.fitted x = false → exec (.sample x v i vs is) s = .next s) ∧
    (s.fitted x = true →
      ((s.outlet x).mu.windowOpen = false ∨ (s.outlet x).sp.feedbackClosed = false →
        exec (.sample x v i vs is) s = .next (s.modMu x fun m =>
          { m with powerSum := m.powerSum + p, sampleCount := m.sampleCount + 1, overdraw := 0 })) ∧
      (s.OutletLaw → s.BillLaw → (s.outlet x).mu.residue < 36000000 → (s.outlet x).mu.windowOpen = true →
        (s.outlet x).sp.feedbackClosed = true → ∃ t wh, exec (.sample x v i vs is) s = .next t ∧ OnlyOutlet s t x ∧
          36000000 * wh + (t.outlet x).mu.residue = (s.outlet x).mu.residue + p ∧ (t.outlet x).mu.residue < 36000000 ∧ wh ≤ 2 ∧
          (t.outlet x).mu.powerSum = (s.outlet x).mu.powerSum + p ∧
          (t.outlet x).mu.sampleCount = (s.outlet x).mu.sampleCount + 1 ∧
          (t.outlet x).mu.windowSample = (s.outlet x).mu.windowSample + (if s.cf.straps.source = .pulse then wh else 0) ∧
          ∀ r, (s.outlet x).sc.session = some r → ∃ r', (t.outlet x).sc.session = some r' ∧ r'.id = r.id ∧
            r'.billedWh = (if s.cf.straps.source = .pulse then r.billedWh else min 2000000 (r.billedWh + wh)) ∧
            (r'.flags.meterClamped = true ↔ r.flags.meterClamped = true ∨ vs = true ∨ is = true ∨ 10000 < v.toNat ∨
              6000 < i.toNat)))

/-- R119, with R110 to R113 and R138: on an ENERGISING outlet each sample first enters the sums and the residue, with METER_CLAMPED
when a field is at its clamp, and hands on the Wh it carries, to the bill under SAMPLE and to the window sample energy under PULSE. Then a
sample above the in-force ceiling and the tolerance raises the overdraw count, the twentieth in a row ends the session with OVERDRAW by an
ordinary stop and sets it to 0, and one that does not exceed sets it to 0. An outlet that the sample's own delivery has stopped is not
ENERGISING any more, and its count is set to 0 (log entry 22). -/
def Obligations.Overdraw : Prop :=
  ∀ (s : State) (x : Outlet) (v i : BitVec 16) (vs is : Bool) (p wh : Nat) (k : Configuration) (r : SessionRecord),
    p = samplePower v i vs is → s.OutletLaw → s.fitted x = true → s.cf.config = some k → (s.outlet x).sc.state = .energising →
    (s.outlet x).sc.session = some r → wh = ((s.outlet x).mu.residue + p) / 36000000 →
    ∀ u, u = (s.modMu x fun m => { m with
      powerSum := m.powerSum + p, sampleCount := m.sampleCount + 1, residue := (m.residue + p) % 36000000 }).modSc x (fun c =>
        { c with session := some { r with flags := { r.flags with
          meterClamped := r.flags.meterClamped || vs || is || decide (10000 < v.toNat) || decide (6000 < i.toNat) } } }) →
    ∀ d, d = (if wh = 0 then u
      else if s.cf.straps.source = .sample then u.deliver x wh (s.cf.second / 60)
      else u.modMu x fun m => { m with windowSample := m.windowSample + wh }) →
    if (d.outlet x).sc.state = .energising ∧ ((s.outlet x).sp.inForce + k.tolerance) * 10000 < p then
      if (s.outlet x).mu.overdraw < 19 then
        exec (.sample x v i vs is) s = .next (d.modMu x fun m => { m with overdraw := (s.outlet x).mu.overdraw + 1 })
      else ∀ z, z = d.modMu x (fun m => { m with overdraw := 0 }) → ∀ r', (d.outlet x).sc.session = some r' →
        ∃ t, exec (.sample x v i vs is) s = .next t ∧ OrdinaryStopped z t x r' 133
    else exec (.sample x v i vs is) s = .next (d.modMu x fun m => { m with overdraw := 0 })

/-- R142 and R143: a delivery adds its Wh, up to 2,000,000 billed, to the line of the band in force. In CONNECTING, ENERGISING and
SUSPENDED the delivery that reaches the limit ends the session with ENERGY_LIMIT, and one after which the energy cap or the cost cap is
reached with ENERGY_CAP or COST_CAP, in this order, by an ordinary stop (at a contactor OPEN already: log entry 21); otherwise nothing
but the record changes. -/
def Obligations.EnergyDelivery : Prop :=
  ∀ (s : State) (x : Outlet) (r r' : SessionRecord) (b : Tariff) (wh minute added : Nat), s.OutletLaw → r.billedWh ≤ 2000000 →
    (s.outlet x).sc.session = some r → (s.ts.bank r.bank).tariff = some b → added = min wh (2000000 - r.billedWh) →
    r' = (if added = 0 then r else { r with
      lines := addToLine (b.bandAt minute).1 added (b.bandAt minute).2 r.lines, billedWh := r.billedWh + added }) →
    ∀ u, u = s.modSc x (fun c => { c with session := some r' }) →
      if (s.outlet x).sc.state.running = true then
        if 0 < added ∧ r.billedWh + added = 2000000 then OrdinaryStopped u (s.deliver x wh minute) x r' 132
        else if 0 < r.energyCap ∧ r.energyCap ≤ r'.billedWh then OrdinaryStopped u (s.deliver x wh minute) x r' 130
        else if 0 < r.costCap ∧ r.costCap * 10000 ≤ r'.fee + (r'.lines.map BandLine.cost).sum then
          OrdinaryStopped u (s.deliver x wh minute) x r' 131
        else s.deliver x wh minute = u
      else s.deliver x wh minute = u

/-- R113 to R116: a pulse is taken under PULSE, on a fitted outlet, from a released input, and leaves the input asserted. With the window
OPEN it adds the pulse weight to the bill, up to the energy limit, and to the window pulse energy. At 1,000 Wh the window closes: both
energies become 0, and so does the disagree count when the sample energy is within 50 Wh of 1,000 or the count stood at 2, which then
also sets METER_DISAGREE and raises METER; else the count is raised. With a cap or the limit reached the pulse is a delivery like any
other (R142), and the window is raised and closed after it all the same, unless the delivery has settled the session, which leaves the
metering window closed (log entry 12). A release makes the next pulse possible and does
nothing else. -/
def Obligations.MeterPulses : Prop :=
  ∀ (s : State) (x : Outlet),
    (s.cf.straps.source = .sample ∨ s.fitted x = false →
      exec (.meterPulse x) s = .next s ∧ exec (.pulseInputReleased x) s = .next s) ∧
    ((s.outlet x).mu.pulseAsserted = true → exec (.meterPulse x) s = .next s) ∧
    (s.cf.straps.source = .pulse → s.fitted x = true →
      exec (.pulseInputReleased x) s = .next (s.modMu x fun m => { m with pulseAsserted := false }) ∧
      ((s.outlet x).mu.pulseAsserted = false →
        ((s.outlet x).mu.windowOpen = false →
          exec (.meterPulse x) s = .next (s.modMu x fun m => { m with pulseAsserted := true })) ∧
        (∀ k v, s.cf.config = some k → (s.outlet x).mu.windowOpen = true → (s.outlet x).mu.windowPulse + k.pulseWeight < 1000 →
          s.OutletLaw → v = (s.modMu x fun m => { m with pulseAsserted := true }).deliver x k.pulseWeight (s.cf.second / 60) →
          exec (.meterPulse x) s = .next (if (v.outlet x).mu.windowOpen = true then
            v.modMu x fun m => { m with windowPulse := (s.outlet x).mu.windowPulse + k.pulseWeight } else v)) ∧
        (∀ k v, s.cf.config = some k → (s.outlet x).mu.windowOpen = true → 1000 ≤ (s.outlet x).mu.windowPulse + k.pulseWeight →
          s.OutletLaw → v = (s.modMu x fun m => { m with pulseAsserted := true }).deliver x k.pulseWeight (s.cf.second / 60) →
          ∀ z : Nat → State, (∀ n, z n = v.modMu x fun m => { m with windowPulse := 0, windowSample := 0, disagree := n }) →
          if (v.outlet x).mu.windowOpen = false then exec (.meterPulse x) s = .next v
          else if (s.outlet x).mu.windowSample ≤ 1050 ∧ 950 ≤ (s.outlet x).mu.windowSample then
            exec (.meterPulse x) s = .next (z 0)
          else if (s.outlet x).mu.disagree < 2 then exec (.meterPulse x) s = .next (z ((s.outlet x).mu.disagree + 1))
          else exec (.meterPulse x) s = .next { (z 0).modSc x (fun c => { c with session := c.session.map fun r =>
              { r with flags := { r.flags with meterDisagree := true } } }) with pk := { v.pk with edge := v.pk.edge ||| 0x80 } }) ∧
        (∀ k r, s.cf.config = some k → (s.outlet x).sc.session = some r → s.OutletLaw → r.billedWh + k.pulseWeight < 2000000 →
          r.energyCap = 0 → r.costCap = 0 → 1 ≤ k.pulseWeight →
          ∃ t, exec (.meterPulse x) s = .next t ∧ OnlyOutlet s t x ∧ (t.outlet x).mu.pulseAsserted = true ∧
            t.sq = s.sq ∧ t.ts = s.ts ∧ t.stageTx = s.stageTx ∧ (t.outlet x).sp = (s.outlet x).sp ∧
            (t.outlet x).sc.state = (s.outlet x).sc.state ∧
            (∃ r', (t.outlet x).sc.session = some r' ∧ r'.billedWh = r.billedWh + k.pulseWeight ∧
              (if (s.outlet x).mu.windowPulse + k.pulseWeight < 1000 then
                (t.outlet x).mu = { (s.outlet x).mu with
                  pulseAsserted := true, windowPulse := (s.outlet x).mu.windowPulse + k.pulseWeight } ∧
                t.pk = s.pk ∧ r'.flags = r.flags
              else if (s.outlet x).mu.windowSample ≤ 1050 ∧ 950 ≤ (s.outlet x).mu.windowSample then
                (t.outlet x).mu = { (s.outlet x).mu with
                  pulseAsserted := true, windowPulse := 0, windowSample := 0, disagree := 0 } ∧
                t.pk = s.pk ∧ r'.flags = r.flags
              else if (s.outlet x).mu.disagree < 2 then
                (t.outlet x).mu = { (s.outlet x).mu with
                  pulseAsserted := true, windowPulse := 0, windowSample := 0, disagree := (s.outlet x).mu.disagree + 1 } ∧
                t.pk = s.pk ∧ r'.flags = r.flags
              else
                (t.outlet x).mu = { (s.outlet x).mu with
                  pulseAsserted := true, windowPulse := 0, windowSample := 0, disagree := 0 } ∧
                t.pk = { s.pk with edge := s.pk.edge ||| 0x80 } ∧ r'.flags = { r.flags with meterDisagree := true })))))

/-- R121 and R139: the silence timer's expiry ends the session of an ENERGISING outlet by a quick stop with STAGE_LOST. R130: the await
timer's expiry ends a session in AWAIT_PLUG with NO_VEHICLE and settles it at once. R144: each
expiry of the idle minute timer counts a minute, which is billed when it lies beyond the grace, the maximum is not reached, IDLE_CLAMPED is
clear and it fits under the cost cap; the first that fails on the cost cap alone sets IDLE_CLAMPED. None of them does anything while its
timer is stopped (log entry 1). -/
def Obligations.SessionTimers : Prop :=
  ∀ (s : State) (x : Outlet), s.OutletLaw →
    ((s.outlet x).mu.silenceTimer = false → exec (.stageLost x) s = .next s) ∧
    (∀ r, (s.outlet x).mu.silenceTimer = true → (s.outlet x).sc.session = some r →
      ∃ t, exec (.stageLost x) s = .next t ∧ QuickStopped s t x r 135) ∧
    ((s.outlet x).sc.awaitTimer = false → exec (.noVehicle x) s = .next s) ∧
    (∀ r, (s.outlet x).sc.awaitTimer = true → (s.outlet x).sc.session = some r →
      ∃ t, exec (.noVehicle x) s = .next t ∧ OnlyOutlet s t x ∧ SettledAs s t x { r with endReason := some 128 } .vacant ∧
        (t.outlet x).sp = (s.outlet x).sp ∧ t.stageTx = s.stageTx ∧ t.isPending (Cause.ofOutlet x) = true) ∧
    ((s.outlet x).sc.idleTimer = false → exec (.idleMinute x) s = .next s) ∧
    (∀ r b, (s.outlet x).sc.idleTimer = true → (s.outlet x).sc.session = some r → (s.ts.bank r.bank).tariff = some b →
      ∃ r', exec (.idleMinute x) s = .next (s.modSc x fun c => { c with session := some r' }) ∧
        r' = { r with idleMinutes := min (r.idleMinutes + 1) 65535, billedIdle := r'.billedIdle, idleFee := r'.idleFee
                      flags := r'.flags } ∧
        (if r'.idleMinutes ≤ b.idleGrace ∨ b.idleMax ≤ r.billedIdle ∨ r.flags.idleClamped = true then
          r'.billedIdle = r.billedIdle ∧ r'.idleFee = r.idleFee ∧ r'.flags = r.flags
        else if r.costCap = 0 ∨ r.total + b.idlePrice ≤ r.costCap * 10000 then
          r'.billedIdle = r.billedIdle + 1 ∧ r'.idleFee = r.idleFee + b.idlePrice ∧ r'.flags = r.flags
        else
          r'.billedIdle = r.billedIdle ∧ r'.idleFee = r.idleFee ∧ r'.flags = { r.flags with idleClamped := true }))

/-! ## The pedestal link -/

/-- R180: the receiver's states byte by byte, a gap and a stop-bit error. A byte, whatever it does, starts the gap timer again. A length
byte of 0 or above 96 does what LINK_BAD_LENGTH does, and the byte that completes a frame what COMMAND_FRAME_COMPLETE does, whether
the frame's check is good or not. -/
def Obligations.ReceiverByteByByte : Prop :=
  ∀ (s : State) (b : Byte) (u : Receiver → State), (∀ r, u r = { s with pk := { s.pk with receiver := r, gapTimer := true } }) →
    (s.pk.receiver = .hunt → exec (.linkByteReceived b) s = .next (if b = 0x7E then u .length else u .hunt)) ∧
    (s.pk.receiver = .skip → exec (.linkByteReceived b) s = .next (u .skip)) ∧
    (s.pk.receiver = .length → 1 ≤ b.toNat → b.toNat ≤ 96 → exec (.linkByteReceived b) s = .next (u (.body b []))) ∧
    (∀ length kept, s.pk.receiver = .body length kept → kept.length + 1 < length.toNat + 2 →
      exec (.linkByteReceived b) s = .next (u (.body length (kept ++ [b])))) ∧
    (s.pk.receiver = .length → b.toNat = 0 ∨ 96 < b.toNat → exec (.linkByteReceived b) s = exec (.linkBadLength b) s) ∧
    (∀ length kept, s.pk.receiver = .body length kept → kept.length + 1 = length.toNat + 2 →
      exec (.linkByteReceived b) s = exec (.commandFrameComplete b) s) ∧
    exec .linkStopBitError s = .next (if s.pk.receiver = .hunt then u .hunt else u .skip) ∧
    exec .linkGapTimeout s = .next { s with pk := { s.pk with receiver := .hunt, gapTimer := false } }

/-- R180, R181 and R184: the byte that completes a frame leaves the receiver hunting. While a command waits or a response is HELD, the
frame is discarded with LINK_OVERRUN; else a check that is not good is answered with BAD_FRAME and the code received, at once or after
the response being sent; a good one does what the command row does. A bad length byte is answered with BAD_FRAME and
code 0 under the same conditions, and the receiver skips; given while the receiver is not at the length byte, LINK_BAD_LENGTH changes
nothing (log entries 1 and 10). -/
def Obligations.FrameOnTheLink : Prop :=
  ∀ (s : State) (last length : Byte) (kept : List Byte) (u : Receiver → State),
    (∀ r, u r = { s with pk := { s.pk with receiver := r, gapTimer := true } }) →
    (s.linkBlocked = true ↔ s.pk.command ≠ .empty ∨ ∃ r, s.pk.response = .held r) ∧
    (s.pk.receiver ≠ .length → exec (.linkBadLength length) s = .next s) ∧
    (s.pk.receiver = .length → (length.toNat = 0 ∨ 96 < length.toNat) →
      exec (.linkBadLength length) s = .next
        (if s.linkBlocked then (u .skip).raise .linkOverrun
        else if s.pk.response = .empty then (u .skip).answered 0 0x01 []
        else { u .skip with pk := { (u .skip).pk with command := .badFrame 0 } })) ∧
    (s.pk.receiver = .body length kept → kept.length = length.toNat + 1 → 1 ≤ length.toNat →
      ∃ code data check, kept ++ [last] = code :: data ++ check ∧ check.length = 2 ∧
        (s.linkBlocked → exec (.commandFrameComplete last) s = .next ((u .hunt).raise .linkOverrun)) ∧
        (s.linkBlocked = false → check ≠ checkBytes (length :: code :: data) →
          exec (.commandFrameComplete last) s = .next
            (if s.pk.response = .empty then (u .hunt).answered code 0x01 []
            else { u .hunt with pk := { (u .hunt).pk with command := .badFrame code } })) ∧
        (s.linkBlocked = false → check = checkBytes (length :: code :: data) →
          ∀ c : Instr, c.commandFrame = some (code, data) →
            ∃ t, exec c (u .hunt) = .next t ∧ exec (.commandFrameComplete last) s = .next t))

/-- R179 to R182, byte by byte: the bytes of the frame of a command row, received one after the other by a hunting receiver, do exactly
what the row does, and leave the receiver hunting. -/
def Obligations.FrameBytesAreTheCommand : Prop :=
  ∀ (s : State) (c : Instr) (code : Byte) (data : List Byte), c.commandFrame = some (code, data) → data.length ≤ 95 →
    s.pk.receiver = .hunt →
    exec c { s with pk := { s.pk with gapTimer := true } } = .next (s.afterBytes
      ((0x7E : Byte) :: BitVec.ofNat 8 (data.length + 1) :: code :: data ++
        checkBytes (BitVec.ofNat 8 (data.length + 1) :: code :: data)))

/-- R181, R182 and R184: a command that finds a command waiting or a response HELD, whichever response it is, is discarded with
LINK_OVERRUN; one that finds a response being sent waits; neither is seen by any block. An undefined code that is taken is answered with
UNKNOWN_COMMAND. -/
def Obligations.CommandsWaitOrAreDiscarded : Prop :=
  ∀ (s : State) (c : Instr) (code : Byte) (data : List Byte), c.commandFrame = some (code, data) →
    (s.pk.command ≠ .empty ∨ (∃ r, s.pk.response = .held r) →
      exec c s = .next { s with pk := { s.pk with edge := s.pk.edge ||| 0x100 } }) ∧
    (s.pk.command = .empty → (∃ r, s.pk.response = .sending r) →
      exec c s = .next { s with pk := { s.pk with command := .command code data } }) ∧
    (s.linkFree → LinkCommand.ofCode code = none → exec c s = .next (s.answered code 0x0D []))

/-- R182 and R183: HOLD released starts a HELD response, HOLD asserted stops none, and the last byte sent empties the response buffer
and lets in what waits: a BAD_FRAME answer is formed, and a command does what its row does on a free link. RESPONSE_SENT while the
response is HELD or the buffer EMPTY changes nothing (log entry 1). -/
def Obligations.ResponseBufferEvents : Prop :=
  ∀ s : State,
    exec .holdAsserted s = .next { s with pk := { s.pk with hold := true } } ∧
    (∀ r, s.pk.response = .held r →
      exec .holdReleased s = .next { s with pk := { s.pk with hold := false, response := .sending r } } ∧
      exec .responseSent s = .next s) ∧
    ((∀ r, s.pk.response ≠ .held r) → exec .holdReleased s = .next { s with pk := { s.pk with hold := false } }) ∧
    (s.pk.response = .empty → exec .responseSent s = .next s) ∧
    (∀ r u, s.pk.response = .sending r → u = { s with pk := { s.pk with response := .empty, command := .empty } } →
      (s.pk.command = .empty → exec .responseSent s = .next u) ∧
      (∀ code, s.pk.command = .badFrame code → exec .responseSent s = .next (u.answered code 0x01 [])) ∧
      (∀ (c : Instr) (code : Byte) (data : List Byte), s.pk.command = .command code data → c.commandFrame = some (code, data) →
        exec .responseSent s = exec c u))

/-! ## The commands, taken at once on a free link -/

/-- R194 and R195, with R28 and R70: the refusals in their order, on the 19 data bytes with their ranges and M + F × N within B, and the
acceptance while the site-trip input is released: the record is stored, entries at or above N leave both tables, UNCONFIGURED goes to
JOINING with cap 0 and raises SHARE, BARRED stays, and CURTAIL is raised exactly when the removals change the effective level. With the
input asserted the acceptance also begins the site trip (R82). -/
def Obligations.Configure : Prop :=
  ∀ s : State, s.linkFree →
    (s.cf.config.isSome = true → ∀ data, exec (.configure data) s = .next (s.answered 0x10 0x04 [])) ∧
    (s.cf.config = none → ∀ data, data.length ≠ 19 → exec (.configure data) s = .next (s.answered 0x10 0x02 [])) ∧
    (s.cf.config = none → ∀ (B M F N U P A O T W D : Nat) (data : List Byte), B < 65536 → M < 65536 → F < 65536 → N < 256 →
      U < 65536 → P < 65536 → A < 65536 → O < 65536 → T < 65536 → W < 256 → D < 256 →
      data = bytesOf 2 B ++ bytesOf 2 M ++ bytesOf 2 F ++ bytesOf 1 N ++ bytesOf 2 U ++ bytesOf 2 P ++ bytesOf 2 A ++ bytesOf 2 O ++
        bytesOf 2 T ++ bytesOf 1 W ++ bytesOf 1 D →
      ∀ k : Configuration, k = { budget := B, margin := M, fallback := F, population := N, ramp := U, rated := P, ratingA := A
                                 ratingB := O, tolerance := T, pulseWeight := W, tripSeconds := D } →
      if 100 ≤ B ∧ F ≤ P ∧ 2 ≤ N ∧ N ≤ 32 ∧ s.ownStation < N ∧ 1 ≤ U ∧ 1 ≤ P ∧ 1 ≤ A ∧ A ≤ P ∧
          (s.cf.straps.twoOutlets = true → 1 ≤ O ∧ O ≤ P) ∧ (W = 1 ∨ W = 2 ∨ W = 5 ∨ W = 10) ∧ 1 ≤ D ∧ M + F * N ≤ B then
        (s.se.tripInput = false → ∃ t : State, exec (.configure data) s = .next (t.answered 0x10 0x00 []) ∧
          t = { s with cf := { s.cf with config := some k }, pv := t.pv, se := t.se, pk := { s.pk with edge := t.pk.edge } } ∧
          t.pv = { s.pv with peers := s.pv.peers.filter (fun e => decide (e.station < N))
                             curtail := s.pv.curtail.filter (fun e => decide (e.station < N)) } ∧
          t.se = (if s.se.state = .unconfigured then { s.se with state := .joining, cap := 0, timer := 0 } else s.se) ∧
          t.pk.edge = s.pk.edge ||| (if t.pv.level = s.pv.level then 0 else 0x10) |||
            (if s.se.state = .unconfigured then 0x04 else 0)) ∧
        (s.se.tripInput = true → ∃ t, exec (.configure data) s = .next t ∧ t.cf = { s.cf with config := some k } ∧
          t.pv.hold = max s.pv.hold D ∧ t.pv.haltRecord = some { source := s.ownStation, reason := 1 } ∧
          t.pk.response = (s.answered 0x10 0x00 []).pk.response ∧
          (if s.se.state = .barred then t.li = s.li
            else Placed s.li t.li .halt (parkFrame .halt s.ownStation [BitVec.ofNat 8 D, 1])) ∧
          t.se.state = (if s.se.state = .unconfigured then .joining else s.se.state))
      else exec (.configure data) s = .next (s.answered 0x10 0x02 []))

/-- R196: IDENTIFY with data is refused; else it answers the part code, the revision, the station number and the straps, and changes
nothing, in every share state and configured or not. A line-rate strap of 11 is read, and so reported, as middle. -/
def Obligations.Identify : Prop :=
  ∀ (s : State) (data : List Byte), s.linkFree →
    (data ≠ [] → exec (.identify data) s = .next (s.answered 0x11 0x02 [])) ∧
    exec (.identify []) s = .next (s.answered 0x11 0x00
      [0x04, 0x18, 0x01, s.cf.straps.station.setWidth 8,
       (match s.cf.straps.rate with | .low => 0#8 | .middle => 1#8 | .high => 2#8) |||
         (match s.cf.straps.source with | .sample => 0#8 | .pulse => 4#8) |||
         (if s.cf.straps.twoOutlets then 8#8 else 0#8)]) ∧
    ∀ p : StrapPins, p.rate = 3 → (Straps.ofPins p).rate = .middle

/-- R163 and R198: SET_CLOCK with data of another length than 5 or a second above 86,399 is refused; else the day and the second become
the values given, the clock is set, and every open session takes CLOCK_STEPPED. -/
def Obligations.SetClock : Prop :=
  ∀ s : State, s.linkFree →
    (∀ data, data.length ≠ 5 → exec (.setClock data) s = .next (s.answered 0x12 0x02 [])) ∧
    (∀ day second : Nat, day < 65536 → second < 16777216 →
      exec (.setClock (bytesOf 2 day ++ bytesOf 3 second)) s = .next
        (if 86400 ≤ second then s.answered 0x12 0x02 []
        else
          let step : SessionRecord → SessionRecord := fun r => { r with flags := { r.flags with clockStepped := true } }
          ({ s with cf := { s.cf with day := day, second := second, clockSet := true }
                    outA := { s.outA with sc := { s.outA.sc with session := s.outA.sc.session.map step } }
                    outB := { s.outB with sc := { s.outB.sc with session := s.outB.sc.session.map step } } }).answered 0x12 0x00 []))

/-- R200, with R22, R40, R65, R88, R107, R125, R150, R166, R178 and R192: what a RESTART keeps and what it brings back to a start, while
the site-trip input is released. Every open session is settled with RESTART behind the records queued, outlet A's first; each fitted
outlet is VACANT exactly when its contactor is OPEN and the emergency stop released, else OUT_OF_SERVICE. With the input asserted and
CONFIGURE accepted the station comes out halted by its site trip (R82, R88), and otherwise as with the input released. The stage port has
an order of 0 for each fitted outlet, and a contactor that has to open goes to OPEN_WAIT, but is OPEN at once with an open feedback: that
R99 confirms a CLOSE_WAIT contactor so at the restart itself, before the outlet states are set, is the model's reading of R107 (log
entries 15 and 17), and so is that an order timer which has expired stays expired there, where R99 says that it stops (log entry 27). The
receiver goes on through the work: what the link brings meanwhile does what it does while a response is being sent, so the first frame
waits for the RESTART response, HELD or not, and a second is discarded with a LINK_OVERRUN that stays pending (R181, R182, R192; that this
input stands in a field of the model, and the overrun after the clearing of the causes: log entry 28). -/
def Obligations.Restart : Prop :=
  ∀ s : State, s.linkFree → s.OutletLaw → s.QueueLaw →
    (∀ data, data ≠ [] → exec (.restart data) s = .next (s.answered 0x13 0x02 [])) ∧
    (∀ k, s.se.tripInput = true → s.cf.config = some k → ∀ r : State, r = { s with se := { s.se with tripInput := false } } →
      ∃ t u, exec (.restart []) s = .next t ∧ exec (.restart []) r = .next u ∧
        t.pv = { u.pv with hold := k.tripSeconds, holdTimer := true
                           haltRecord := some { source := s.ownStation, reason := 1 } } ∧
        t.se = { u.se with tripInput := true, tripRepeat := 0 } ∧
        (∀ c, t.isPending c = (u.isPending c || decide (c = .halt))) ∧ t.pk = { u.pk with edge := t.pk.edge } ∧
        (if s.se.state = .barred then t.li = u.li
          else Placed u.li t.li .halt (parkFrame .halt s.ownStation [BitVec.ofNat 8 k.tripSeconds, 1])) ∧
        t.cf = u.cf ∧ t.ts = u.ts ∧ t.sq = u.sq ∧ t.pk.response = u.pk.response ∧ t.estop = u.estop ∧ t.nextId = u.nextId ∧
        t.pending = u.pending ∧ ∀ x, s.fitted x = true → t.outlet x = u.outlet x) ∧
    (s.se.tripInput = false ∨ s.cf.config = none → ∃ t, exec (.restart []) s = .next t ∧
      t.cf = s.cf ∧ t.estop = s.estop ∧ t.nextId = s.nextId ∧ t.pending = s.pending ∧
      t.pv = { peers := [], curtail := [], ownCurtail := none, hold := 0, holdTimer := false, haltRecord := none } ∧
      (∀ k, t.li.slot k = none) ∧ t.li.activity = .quiet ∧ t.li.lastFault = .noFault ∧
      t.li.condition = (if s.li.condition = .stuck then .stuck else .busy) ∧
      t.se = { s.se with
        state := if s.se.state = .unconfigured ∨ s.se.state = .barred then s.se.state else .joining
        timer := 0, failed := 0, cap := if s.se.state = .unconfigured ∨ s.se.state = .barred then s.se.cap else 0
        frameBuilt := false, ackReported := false, ceiling := 0, claim := 0, prevClaim := 0, prevAcked := false
        figures := { budget := none, share := none, headroom := none }, origin := 100 } ∧
      t.ts = { s.ts with bank0 := { s.ts.bank0 with bound := 0 }, bank1 := { s.ts.bank1 with bound := 0 } } ∧
      t.sq = { queue := s.sq.queue ++ s.openSessions.map (fun r => s.settlementOf { r with endReason := some 140 }), reserved := 0 } ∧
      (∀ v, v = ({ s with pk := { s.pk with
            edge := 0, restartInput := [], response := .sending { code := 0x13, status := 0x00, data := [] } } } : State).afterInputs
          s.pk.restartInput →
        t.pk = { v.pk with response := (s.answered 0x13 0x00 []).pk.response }) ∧
      t.stageTx = s.stageTx ++ (if s.outA.sp.ordered = 0 then [] else [{ outlet := .a, value := 0 }]) ++
        (if s.fitted .b = false ∨ s.outB.sp.ordered = 0 then [] else [{ outlet := .b, value := 0 }]) ∧
      ∀ x, s.fitted x = true →
        (∀ o : StageOutlet, o = (s.outlet x).sp.orderedZero → (t.outlet x).sp =
          (if (s.outlet x).sp.contactor = .isOpen then o
          else if (s.outlet x).sp.feedbackClosed = false then
            { o with contactor := .isOpen, driveClosed := false, contactorTimer := false, pendingClose := false, confirmed := 0
                     isConfirmed := true, orderTimer := if o.orderTimer = .expired then .expired else .stopped }
          else if (s.outlet x).sp.contactor = .welded then o
          else { o with contactor := .openWait, driveClosed := false, contactorTimer := true, pendingClose := false })) ∧
        (t.outlet x).sp.ordered = 0 ∧ (t.outlet x).sp.driveClosed = false ∧ (t.outlet x).sp.pendingClose = false ∧
        (t.outlet x).sp.feedbackClosed = (s.outlet x).sp.feedbackClosed ∧
        (t.outlet x).sp.plugPresent = (s.outlet x).sp.plugPresent ∧
        (t.outlet x).sp.contactor = (if (s.outlet x).sp.feedbackClosed = false then .isOpen
          else if (s.outlet x).sp.contactor = .welded then .welded else .openWait) ∧
        (t.outlet x).sc = SessionOutlet.afterReset
          (if (t.outlet x).sp.contactor = .isOpen ∧ s.estop = false then .vacant else .outOfService) ∧
        (t.outlet x).mu = { MeterOutlet.afterReset with
          lastDraw := (s.outlet x).mu.lastDraw, pulseAsserted := (s.outlet x).mu.pulseAsserted })

/-- R152 to R154 on the data bytes: a band count that is 0 or above 6, or that the length does not fit, a tariff id of 0, an idle maximum
above 1,440, a first start minute other than 0, a start minute above 1,439 and one not above the one before it are BAD_ARGUMENT. Else the
target is the non-active bank when it is not bound (bank 1 counts as active before the first load), then the active bank when it is not
bound, else BANK_BOUND. The target takes the tariff and becomes active, the other bank is as it was, and the answer names the target. -/
def Obligations.LoadTariff : Prop :=
  ∀ (s : State) (data : List Byte), s.linkFree →
    ((∀ n, 1 ≤ n → n ≤ 6 → data.length = 12 + 4 * n → data[11]? ≠ some (BitVec.ofNat 8 n)) →
      exec (.loadTariff data) s = .next (s.answered 0x20 0x02 [])) ∧
    (∀ (id fee grace idlePrice idleMax : Nat) (bands : List Band), id < 65536 → fee < 16777216 → grace < 256 →
      idlePrice < 16777216 → idleMax < 65536 → 1 ≤ bands.length → bands.length ≤ 6 →
      (∀ b ∈ bands, b.start < 65536 ∧ b.price < 65536) →
      data = bytesOf 2 id ++ bytesOf 3 fee ++ bytesOf 1 grace ++ bytesOf 3 idlePrice ++ bytesOf 2 idleMax ++
        bytesOf 1 bands.length ++ bands.flatMap (fun b => bytesOf 2 b.start ++ bytesOf 2 b.price) →
      (id = 0 ∨ 1440 < idleMax ∨ bands.head?.map Band.start ≠ some 0 ∨ (∃ b ∈ bands, 1439 < b.start) ∨
          ¬ bands.Pairwise (fun a b => a.start < b.start) →
        exec (.loadTariff data) s = .next (s.answered 0x20 0x02 [])) ∧
      (id ≠ 0 → idleMax ≤ 1440 → bands.head?.map Band.start = some 0 → (∀ b ∈ bands, b.start ≤ 1439) →
        bands.Pairwise (fun a b => a.start < b.start) →
        ∀ tariff : Tariff, tariff = { id := id, fee := fee, bands := bands, idleGrace := grace, idlePrice := idlePrice
                                      idleMax := idleMax } →
        let to0 : State := { s with ts := { s.ts with bank0 := { s.ts.bank0 with tariff := some tariff }, active := some .bank0 } }
        let to1 : State := { s with ts := { s.ts with bank1 := { s.ts.bank1 with tariff := some tariff }, active := some .bank1 } }
        exec (.loadTariff data) s = .next
          (if s.ts.active = some .bank0 then
            if s.ts.bank1.bound = 0 then to1.answered 0x20 0x00 [1]
            else if s.ts.bank0.bound = 0 then to0.answered 0x20 0x00 [0] else s.answered 0x20 0x0A []
          else
            if s.ts.bank0.bound = 0 then to0.answered 0x20 0x00 [0]
            else if s.ts.bank1.bound = 0 then to1.answered 0x20 0x00 [1] else s.answered 0x20 0x0A [])))

/-- R127: the checks of OPEN_SESSION in their order, each with its refusal, which changes nothing but the response. -/
def Obligations.OpenSessionRefused : Prop :=
  ∀ (s : State) (data : List Byte), s.linkFree →
    let refuse : Byte → Prop := fun status => exec (.openSession data) s = .next (s.answered 0x30 status [])
    (data.length ≠ 17 → refuse 0x02) ∧
    (∀ (outletByte : Byte) (auth : List Byte) (energyCap costCap : Nat), auth.length = 8 → energyCap < 2 ^ 32 → costCap < 2 ^ 32 →
      data = outletByte :: auth ++ bytesOf 4 energyCap ++ bytesOf 4 costCap →
      ((1 < outletByte.toNat ∨ 2000000 < energyCap) → refuse 0x02) ∧
      (∀ x : Outlet, outletByte = x.byte → energyCap ≤ 2000000 →
        (s.cf.config = none → refuse 0x03) ∧
        (s.cf.config.isSome = true → s.cf.clockSet = false → refuse 0x05) ∧
        (s.cf.config.isSome = true → s.cf.clockSet = true → s.fitted x = false → refuse 0x06) ∧
        (s.cf.config.isSome = true → s.cf.clockSet = true → s.fitted x = true →
          ((s.outlet x).sc.state ≠ .vacant ∨ s.se.state = .barred → refuse 0x07) ∧
          ((s.outlet x).sc.state = .vacant → s.se.state ≠ .barred →
            (s.ts.active = none → refuse 0x08) ∧
            (∀ i b, s.ts.active = some i → (s.ts.bank i).tariff = some b → 16 ≤ s.sq.queue.length + s.sq.reserved →
              refuse 0x09)))))

/-- R128, R129, R155 and R168: an accepted OPEN_SESSION takes the next id, binds the active bank, reserves a place, opens the metering
window with the live record of R128, and answers the id and the tariff id. The outlet goes to AWAIT_PLUG without a plug, to SUSPENDED with
HALTED with a plug while halted, else to CONNECTING with a close, or to CLOSING when the fee reaches the cost cap, whose open finds the
contactor OPEN (log entry 21). -/
def Obligations.OpenSessionAccepted : Prop :=
  ∀ (s : State) (x : Outlet) (auth : List Byte) (energyCap costCap : Nat) (i : BankId) (b : Tariff) (data : List Byte),
    s.linkFree → s.OutletLaw → auth.length = 8 → energyCap ≤ 2000000 → costCap < 2 ^ 32 → s.cf.config.isSome = true →
    s.cf.clockSet = true → s.fitted x = true → (s.outlet x).sc.state = .vacant → s.se.state ≠ .barred → s.ts.active = some i →
    (s.ts.bank i).tariff = some b → s.sq.queue.length + s.sq.reserved < 16 →
    data = x.byte :: auth ++ bytesOf 4 energyCap ++ bytesOf 4 costCap →
    ∀ r : SessionRecord, r = { id := s.nextId, outlet := x, auth := auth, bank := i, tariffId := b.id, startDay := s.cf.day
                               startSecond := s.cf.second, endTime := none, endReason := none, lines := [], billedWh := 0
                               energyCap := energyCap, costCap := costCap, idleMinutes := 0, billedIdle := 0, idleFee := 0
                               fee := b.fee, flags := SessionFlags.clear } →
    ∀ u : State, u = ({ s with nextId := if s.nextId = 65535 then 1 else s.nextId + 1, ts := s.ts.bind i
                               sq := { s.sq with reserved := s.sq.reserved + 1 } }.modSc x fun c =>
        { c with session := some r, requested := 0 }).modMu x MeterOutlet.openWindow →
    ∃ t : State, exec (.openSession data) s = .next (t.answered 0x30 0x00 (bytesOf 2 s.nextId ++ bytesOf 2 b.id)) ∧
      OnlyOutlet u t x ∧
      ((s.outlet x).sp.plugPresent = false → t.ts = u.ts ∧ t.sq = u.sq ∧ (t.outlet x).sp = (s.outlet x).sp ∧
        (t.outlet x).mu = (u.outlet x).mu ∧ (t.outlet x).sc = { (u.outlet x).sc with state := .awaitPlug, awaitTimer := true }) ∧
      ((s.outlet x).sp.plugPresent = true → s.pv.isHalted = true → t.ts = u.ts ∧ t.sq = u.sq ∧
        (t.outlet x).sp = (s.outlet x).sp ∧ (t.outlet x).mu = (u.outlet x).mu ∧
        (t.outlet x).sc = { (u.outlet x).sc with
          state := .suspended, session := some { r with flags := { r.flags with halted := true } } }) ∧
      ((s.outlet x).sp.plugPresent = true → s.pv.isHalted = false → (costCap = 0 ∨ b.fee < costCap * 10000) →
        t.ts = u.ts ∧ t.sq = u.sq ∧ (t.outlet x).mu = (u.outlet x).mu ∧
        (t.outlet x).sc = { (u.outlet x).sc with state := .connecting } ∧
        (t.outlet x).sp = { (s.outlet x).sp with contactor := .closeWait, driveClosed := true, contactorTimer := true }) ∧
      ((s.outlet x).sp.plugPresent = true → s.pv.isHalted = false → 0 < costCap → costCap * 10000 ≤ b.fee →
        OrdinaryStopped u t x r 131)

/-- R133: the refusals of DEMAND in their order, and its clamp to the outlet's configured rating in CONNECTING, ENERGISING and
SUSPENDED. -/
def Obligations.Demand : Prop :=
  ∀ (s : State) (data : List Byte), s.linkFree →
    ((data.length ≠ 3 ∨ 1 < (data.headD 0).toNat) → exec (.demand data) s = .next (s.answered 0x31 0x02 [])) ∧
    (∀ (x : Outlet) (power : Nat), power < 65536 → data = x.byte :: bytesOf 2 power →
      if s.fitted x = false then exec (.demand data) s = .next (s.answered 0x31 0x06 [])
      else if (s.outlet x).sc.state = .connecting ∨ (s.outlet x).sc.state = .energising ∨ (s.outlet x).sc.state = .suspended then
        ∀ k, s.cf.config = some k → exec (.demand data) s = .next
          ((s.modSc x fun c => { c with requested := min power (match x with | .a => k.ratingA | .b => k.ratingB) }).answered
            0x31 0x00 [])
      else exec (.demand data) s = .next (s.answered 0x31 0x07 []))

/-- R136: the refusals of STOP_SESSION in their order; in AWAIT_PLUG the session is ended with the reason given and settled at once, in
CONNECTING, ENERGISING and SUSPENDED it is stopped by an ordinary stop (at a contactor OPEN already: log entry 21). -/
def Obligations.StopSession : Prop :=
  ∀ (s : State) (data : List Byte), s.linkFree → s.OutletLaw →
    ((data.length ≠ 2 ∨ 1 < (data.headD 0).toNat) → exec (.stopSession data) s = .next (s.answered 0x32 0x02 [])) ∧
    (∀ (x : Outlet) (reason : Byte), data = [x.byte, reason] →
      (127 < reason.toNat → exec (.stopSession data) s = .next (s.answered 0x32 0x02 [])) ∧
      (reason.toNat ≤ 127 →
        (s.fitted x = false → exec (.stopSession data) s = .next (s.answered 0x32 0x06 [])) ∧
        (s.fitted x = true → (s.outlet x).sc.state ≠ .awaitPlug → (s.outlet x).sc.state.running = false →
          exec (.stopSession data) s = .next (s.answered 0x32 0x07 [])) ∧
        (∀ r, s.fitted x = true → (s.outlet x).sc.session = some r →
          ((s.outlet x).sc.state = .awaitPlug → ∃ t : State, exec (.stopSession data) s = .next (t.answered 0x32 0x00 []) ∧
            OnlyOutlet s t x ∧ SettledAs s t x { r with endReason := some reason.toNat } .vacant ∧
            (t.outlet x).sp = (s.outlet x).sp) ∧
          ((s.outlet x).sc.state.running = true → ∃ t : State, exec (.stopSession data) s = .next (t.answered 0x32 0x00 []) ∧
            OrdinaryStopped s t x r reason.toNat))))

/-- R37, R148, R170, R171 and R190: the reading commands change nothing but the response, and refuse data of a wrong length or range.
READ_STATUS answers the station part and the two outlet parts of R190, READ_SETTLEMENT the number of records and the head's record in the
layout of R170, or EMPTY, READ_SESSION the outlet state, the presence byte, the requested power and an open session's record with the
amount it would settle to, READ_VIEW the summary of R37 and the first 7 entries from the number given on. -/
def Obligations.ReadingCommands : Prop :=
  ∀ (s : State) (data : List Byte), s.linkFree →
    (data ≠ [] → exec (.readStatus data) s = .next (s.answered 0x60 0x02 []) ∧
      exec (.readSettlement data) s = .next (s.answered 0x50 0x02 [])) ∧
    (∃ d, exec (.readStatus []) s = .next (s.answered 0x60 0x00 d) ∧ d.length = 81 ∧
      StationAt d s ∧ OutletAt d 39 s .a ∧ OutletAt d 60 s .b) ∧
    (s.sq.queue = [] → exec (.readSettlement []) s = .next (s.answered 0x50 0x0B [])) ∧
    (∀ e rest, s.sq.queue = e :: rest → e.record.auth.length = 8 → ∃ d, exec (.readSettlement []) s = .next (s.answered 0x50 0x00 d) ∧
      d.length = 52 + 6 * e.record.lines.length ∧ Carries d 0 1 s.sq.queue.length ∧ RecordAt d 1 e.record e.amount) ∧
    ((data.length ≠ 1 ∨ 31 < (data.headD 0).toNat) → exec (.readView data) s = .next (s.answered 0x42 0x02 [])) ∧
    (∀ first : Byte, first.toNat ≤ 31 → ∀ shown, shown = (s.pv.peers.filter fun e => decide (first.toNat ≤ e.station)).take 7 →
      ∃ d, exec (.readView [first]) s = .next (s.answered 0x42 0x00 d) ∧ d.length = 7 + 12 * shown.length ∧
        Carries d 0 1 s.pv.level ∧ Carries d 2 1 s.pv.hold ∧
        Carries d 3 1 ((s.pv.haltRecord.map HaltRecord.source).getD 255) ∧
        Carries d 4 1 ((s.pv.haltRecord.map HaltRecord.reason).getD 0) ∧ Carries d 5 1 s.pv.peers.length ∧
        Carries d 6 1 shown.length ∧ (∀ e ∈ shown.zipIdx, EntryAt d (7 + 12 * e.2) e.1) ∧
        (s.curtailEntries = [] → Carries d 1 1 255) ∧
        (s.ViewLaw → s.curtailEntries ≠ [] → ∃ e ∈ s.curtailEntries, Carries d 1 1 e.1 ∧ e.2 = s.pv.level ∧
          ∀ f ∈ s.curtailEntries, s.pv.level ≤ f.2 ∧ (f.2 = s.pv.level → e.1 ≤ f.1))) ∧
    ((data.length ≠ 1 ∨ 1 < (data.headD 0).toNat) → exec (.readSession data) s = .next (s.answered 0x33 0x02 [])) ∧
    (∀ x : Outlet, s.fitted x = false → exec (.readSession [x.byte]) s = .next (s.answered 0x33 0x06 [])) ∧
    (∀ x : Outlet, s.fitted x = true → ∃ d, exec (.readSession [x.byte]) s = .next (s.answered 0x33 0x00 d) ∧
      CarriesCode d 0 outletStateCodes (s.outlet x).sc.state ∧
      Carries d 1 1 (flagBits [(s.outlet x).sc.session.isSome, (s.outlet x).sc.openCheck]) ∧
      Carries d 2 2 (s.outlet x).sc.requested ∧
      ((s.outlet x).sc.session = none → d.length = 4) ∧
      (∀ r, (s.outlet x).sc.session = some r → r.auth.length = 8 → d.length = 55 + 6 * r.lines.length ∧
        RecordAt d 4 r ((r.total + 5000) / 10000)))

/-- R30, R80 and R81: the refusals of SET_CURTAIL in their order. Accepted, the origin becomes the level, the own entry of the curtail list
follows it, one CURTAIL frame with the level is placed unless BARRED, one on the line counting as replaced (R9), and CURTAIL is raised exactly when the effective level changes;
level 100 over an origin of 100 changes nothing. -/
def Obligations.SetCurtail : Prop :=
  ∀ (s : State) (data : List Byte), s.linkFree →
    ((data.length ≠ 1 ∨ 100 < (data.headD 0).toNat) → exec (.setCurtail data) s = .next (s.answered 0x40 0x02 [])) ∧
    (∀ level : Byte, level.toNat ≤ 100 → data = [level] →
      (s.cf.config = none → exec (.setCurtail data) s = .next (s.answered 0x40 0x03 [])) ∧
      (s.cf.config.isSome = true → level.toNat = 100 → s.se.origin = 100 →
        exec (.setCurtail data) s = .next (s.answered 0x40 0x00 [])) ∧
      (s.cf.config.isSome = true → (level.toNat ≠ 100 ∨ s.se.origin ≠ 100) →
        ∃ t : State, exec (.setCurtail data) s = .next (t.answered 0x40 0x00 []) ∧
          t = { s with se := { s.se with origin := level.toNat }, pv := t.pv, li := t.li, pk := { s.pk with edge := t.pk.edge } } ∧
          t.pv = { s.pv with ownCurtail := if level.toNat < 100 then some level.toNat else none } ∧
          t.pk.edge = (if t.pv.level = s.pv.level then s.pk.edge else s.pk.edge ||| 0x10) ∧
          if s.se.state = .barred then t.li = s.li
          else Placed s.li t.li .curtail (parkFrame .curtail s.ownStation [level])))

/-- R84, R85 and R32: the refusals of SITE_HALT in their order. Accepted, one HALT frame with the duration and reason 2 is placed unless
BARRED, one on the line counting as replaced (R9), and the own halt is recorded under the own number and holds the station for the larger of what remains and what it asks; a halt
that begins forces C, K and the orders to 0, raises HALT and suspends the outlets (R34, R78, R134); where that confirms an open at once, an
order timer that has expired stays expired by the model's reading (R99 says that it stops: log entry 27). -/
def Obligations.SiteHalt : Prop :=
  ∀ (s : State) (data : List Byte), s.linkFree →
    ((data.length ≠ 1 ∨ data.headD 0 = 0) → exec (.siteHalt data) s = .next (s.answered 0x41 0x02 [])) ∧
    (∀ seconds : Byte, 1 ≤ seconds.toNat → data = [seconds] →
      (s.cf.config = none → exec (.siteHalt data) s = .next (s.answered 0x41 0x03 [])) ∧
      (s.cf.config.isSome = true → ∃ t : State, exec (.siteHalt data) s = .next (t.answered 0x41 0x00 []) ∧
        t.pv = { s.pv with haltRecord := some { source := s.ownStation, reason := 2 }, hold := max s.pv.hold seconds.toNat
                           holdTimer := s.pv.holdTimer || decide (s.pv.hold ≤ seconds.toNat) } ∧
        (if s.se.state = .barred then t.li = s.li
          else Placed s.li t.li .halt (parkFrame .halt s.ownStation [seconds, 2])) ∧
        (0 < s.pv.hold → t = { s with pv := t.pv, li := t.li }) ∧
        (s.pv.hold = 0 → t = { s with pv := t.pv, li := t.li, se := { s.se with ceiling := 0, claim := 0 }, outA := t.outA
                                      outB := t.outB, stageTx := t.stageTx, pk := { s.pk with edge := t.pk.edge } } ∧
          t.isPending .halt = true ∧ (∀ x, (t.outlet x).sp.ordered = 0) ∧ (s.OutletLaw → HaltSuspends s t))))

/-- R172: RELEASE_SETTLEMENT compares the id given with the head alone. -/
def Obligations.ReleaseSettlement : Prop :=
  ∀ (s : State) (data : List Byte), s.linkFree →
    (data.length ≠ 2 → exec (.releaseSettlement data) s = .next (s.answered 0x51 0x02 [])) ∧
    (∀ id : Nat, id < 65536 → data = bytesOf 2 id →
      (s.sq.queue = [] → exec (.releaseSettlement data) s = .next (s.answered 0x51 0x0B [])) ∧
      (∀ e rest, s.sq.queue = e :: rest →
        (id = e.record.id →
          exec (.releaseSettlement data) s = .next
            ({ s with sq := { s.sq with queue := rest } }.answered 0x51 0x00 (bytesOf 1 rest.length)) ∧
          (State.settlePending { s with sq := { s.sq with queue := rest } } = true ↔ rest ≠ [])) ∧
        (id ≠ e.record.id →
          exec (.releaseSettlement data) s = .next (s.answered 0x51 0x0C (bytesOf 2 e.record.id)))))

/-- R188: CLEAR_CAUSES clears the named edge causes and no other, leaves SETTLE_PENDING as the queue gives it, and answers the pending
set after the clearing. A cause raised before it is cleared; one raised after it is pending. -/
def Obligations.ClearCauses : Prop :=
  ∀ (s : State) (data : List Byte), s.linkFree →
    (data.length ≠ 2 → exec (.clearCauses data) s = .next (s.answered 0x61 0x02 [])) ∧
    (∀ named : Nat, 1024 ≤ named → named < 65536 →
      exec (.clearCauses (bytesOf 2 named)) s = .next (s.answered 0x61 0x02 [])) ∧
    (∀ named : BitVec 10, ∃ t : State,
      exec (.clearCauses (bytesOf 2 named.toNat)) s = .next (t.answered 0x61 0x00 (bytesOf 2 t.pendingSet.toNat)) ∧
      t = { s with pk := { s.pk with edge := t.pk.edge } } ∧
      (∀ c : Cause, t.isPending c = (s.isPending c && !named.getLsbD (c.index + 1))) ∧
      t.pendingSet.getLsbD 0 = !s.sq.queue.isEmpty ∧
      (∀ c : Cause, (t.raise c).isPending c = true))

/-- R187 and R189: SET_MASK makes the mask the value given and answers the pending set; ATTENTION is asserted exactly while some cause is
both pending and enabled. -/
def Obligations.SetMask : Prop :=
  ∀ (s : State) (data : List Byte), s.linkFree →
    (data.length ≠ 2 → exec (.setMask data) s = .next (s.answered 0x62 0x02 [])) ∧
    (∀ mask : Nat, 1024 ≤ mask → mask < 65536 → exec (.setMask (bytesOf 2 mask)) s = .next (s.answered 0x62 0x02 [])) ∧
    (∀ mask : BitVec 10, ∃ t : State, t = { s with pk := { s.pk with mask := mask } } ∧
      exec (.setMask (bytesOf 2 mask.toNat)) s = .next (t.answered 0x62 0x00 (bytesOf 2 s.pendingSet.toNat)) ∧
      (t.attention = true ↔ ∃ i, i < 10 ∧ s.pendingSet.getLsbD i = true ∧ mask.getLsbD i = true))

/-! ## The round -/

/-- R63, R68, R69, R71 to R73 and R77: the outcome of the last ANNOUNCE and the failed-round count, the state timer, the transition of the
share state and its counters, SHARE raised exactly at a change, and the round parity inverted, at a round in any share state. -/
def Obligations.RoundTransitions : Prop :=
  ∀ (s : State) (acked : Bool) (failed timer : Nat), acked = (s.se.frameBuilt && s.se.ackReported) →
    failed = (if s.se.frameBuilt = true then
        if s.se.ackReported = true then 0
        else if s.se.state = .joining ∨ s.se.state = .sharing then s.se.failed + 1 else s.se.failed
      else s.se.failed) →
    timer = min (s.se.timer + 1) 255 →
    ∃ t, exec .round s = .next t ∧ t.se.parity = !s.se.parity ∧ t.se.prevAcked = acked ∧
      t.se.prevClaim = (if s.se.frameBuilt = true then s.se.frameClaim else 0) ∧ t.se.ackReported = false ∧
      t.isPending .share = (s.isPending .share || decide (t.se.state ≠ s.se.state)) ∧
      match s.se.state with
      | .joining =>
        if failed = 3 then t.se.state = .isolated ∧ t.se.timer = 1 ∧ t.se.failed = 0
        else if 9 ≤ timer ∧ acked = true then t.se.state = .sharing ∧ t.se.timer = 1 ∧ t.se.failed = failed
        else t.se.state = .joining ∧ t.se.timer = timer ∧ t.se.failed = failed ∧ t.se.cap = s.se.cap
      | .sharing =>
        if failed = 3 then t.se.state = .isolated ∧ t.se.timer = 1 ∧ t.se.failed = 0
        else t.se.state = .sharing ∧ t.se.timer = timer ∧ t.se.failed = failed
      | .isolated =>
        if acked = true then t.se.state = .joining ∧ t.se.timer = 1 ∧ t.se.failed = failed ∧
          t.se.cap = (s.cf.config.map Configuration.fallback).getD 0
        else t.se.state = .isolated ∧ t.se.timer = timer ∧ t.se.failed = failed
      | .unconfigured => t.se.state = .unconfigured ∧ t.se.timer = timer ∧ t.se.failed = failed
      | .barred => t.se.state = .barred ∧ t.se.timer = timer ∧ t.se.failed = failed

/-- R26, R31, R43 to R49, R51 to R54, R56 to R58 and R64, at a round that does not repeat a site trip: both tables aged, L the lowest
level left or 100, CURTAIL raised exactly when L changes, and the round figures, the ceiling and the claim in each share state over the
tables as aged. The own share is the own station's part of the water-fill over the flexible entries and itself. Before CONFIGURE a round
ages the tables all the same. That UNCONFIGURED and BARRED, configured or not, show no figure at all is the model's reading (log entry
18). -/
def Obligations.RoundArithmetic : Prop :=
  ∀ s : State, s.cf.config = none ∨ s.se.tripInput = false ∨ s.se.tripRepeat < 3 → s.ViewLaw →
    ∃ t, exec .round s = .next t ∧
      t.pv = { s.pv with
        peers := (s.pv.peers.map fun e => { e with age := e.age + 1 }).filter (fun e => decide (e.age < 8))
        curtail := (s.pv.curtail.map fun e => { e with age := e.age + 1 }).filter (fun e => decide (e.age < 8)) } ∧
      (∀ l ∈ t.curtailEntries, t.pv.level ≤ l.2) ∧
      (t.pv.level = 100 ∨ ∃ l ∈ t.curtailEntries, l.2 = t.pv.level) ∧ (t.curtailEntries = [] → t.pv.level = 100) ∧
      t.isPending .curtail = (s.isPending .curtail || decide (t.pv.level ≠ s.pv.level)) ∧
      (t.se.state = .unconfigured ∨ t.se.state = .barred →
        t.se.figures = { budget := none, share := none, headroom := none } ∧ t.se.ceiling = s.se.ceiling ∧
        t.se.claim = s.se.claim) ∧
      ∀ k, s.cf.config = some k → ∀ (E qA qB q w : Nat), E = k.budget * t.pv.level / 100 - k.margin - k.fallback * (k.population - (t.pv.peers.length + 1)) →
        qA = (if s.outA.sc.state = .energising then s.outA.sc.requested else 0) →
        qB = (if s.cf.straps.twoOutlets = true ∧ s.outB.sc.state = .energising then s.outB.sc.requested else 0) →
        q = min (qA + qB) k.rated → w = (if 0 < qA then 1 else 0) + (if 0 < qB then 1 else 0) →
        (t.se.state = .joining ∨ t.se.state = .isolated ∨ (t.se.state = .sharing ∧ s.pv.isHalted = true) →
          t.se.figures = { budget := some E, share := none, headroom := none } ∧ t.se.claim = t.se.ceiling ∧
          t.se.ceiling = (if s.pv.isHalted = true then 0
            else if t.se.state = .joining then min s.se.ceiling t.se.cap
            else if t.se.timer ≤ 1 then min s.se.ceiling k.fallback
            else if t.se.timer ≤ 8 then s.se.ceiling
            else min k.fallback (min q (s.se.ceiling + k.ramp)))) ∧
        (t.se.state = .sharing → s.pv.isHalted = false →
          ∃ S low H : Nat, OwnShare E t.pv.peers { station := s.ownStation, q := q, w := w } S ∧ low = min s.se.ceiling (min S q) ∧
            H = E - (t.pv.peers.map fun e => max e.ceiling (max e.claim e.draw)).sum - low ∧
            t.se.figures = { budget := some E, share := some S, headroom := some H } ∧
            t.se.ceiling = (if s.se.frameBuilt = true ∧ s.se.ackReported = true then
                max low (min s.se.frameClaim (min S (min q (low + H)))) else low) ∧
            t.se.claim = min S (min q (t.se.ceiling + k.ramp)))

/-- R59 to R63, R81, R82, R117 and R132: the split of C and its orders, REDUCED, the draws, the ANNOUNCE and the CURTAIL placed, with one
on the line counting as replaced and nothing else of the line interface changed (R9), and the
site-trip repeat, which comes at every fourth round while the input stays asserted: after the round's other work the station halts itself
anew, and a halt that begins forces C, K and the orders to 0 and suspends the outlets (R34, R78, R134). An outlet ceiling that differs from
the order is the new order, UNCONFIRMED with its timer running, and one that is equal leaves the ceiling record as it was (R92). Before
CONFIGURE, in UNCONFIGURED and BARRED, a round records the draws and starts the sums anew, gives no order, builds no ANNOUNCE and repeats no
trip. The draw of an outlet without samples by the in-force ceiling after the round's own orders is the model's reading (log entry 18), and
so is that an order timer which has expired stays expired where the halt confirms an open, at which R99 says that it stops (log entry
27). -/
def Obligations.RoundOrdersAndFrames : Prop :=
  ∀ s : State,
    ((s.cf.config = none ∧ (s.se.state = .unconfigured ∨ s.se.state = .barred)) ∨
        (s.cf.config.isSome = true ∧ (s.se.tripInput = false ∨ s.se.tripRepeat < 3)) → ∃ t, exec .round s = .next t ∧
      t = { s with li := t.li, pv := t.pv, se := t.se, outA := t.outA, outB := t.outB, stageTx := t.stageTx
                   pk := { s.pk with edge := t.pk.edge } } ∧
      t.se.tripInput = s.se.tripInput ∧
      t.se.tripRepeat = s.se.tripRepeat + (if s.cf.config.isSome = true ∧ s.se.tripInput = true then 1 else 0) ∧
      (∀ x, (t.outlet x).mu = { (s.outlet x).mu with
        powerSum := 0, sampleCount := 0
        lastDraw := if s.fitted x = true ∧ (s.outlet x).sc.state = .energising then
            if (s.outlet x).mu.sampleCount = 0 then (t.outlet x).sp.inForce
            else (s.outlet x).mu.powerSum / (s.outlet x).mu.sampleCount / 10000
          else 0 }) ∧
      (s.se.origin < 100 → s.se.state ≠ .barred →
        t.li.slot .curtail = some (parkFrame .curtail s.ownStation [BitVec.ofNat 8 s.se.origin])) ∧
      (100 ≤ s.se.origin → t.li.slot .curtail = s.li.slot .curtail) ∧ t.li.slot .halt = s.li.slot .halt ∧
      (s.se.state = .barred → t.li = s.li) ∧
      t.li = { s.li with activity := t.li.activity, curtailSlot := t.li.curtailSlot, announceSlot := t.li.announceSlot } ∧
      (∀ j old replaced, s.li.activity = .sending j old replaced → t.li.activity = .sending j old (replaced ||
        decide (j = .announce ∧ t.se.frameBuilt = true) || decide (j = .curtail ∧ s.se.origin < 100 ∧ s.se.state ≠ .barred))) ∧
      ((∀ j old replaced, s.li.activity ≠ .sending j old replaced) → t.li.activity = s.li.activity) ∧
      (t.se.state = .unconfigured ∨ t.se.state = .barred → t.se.frameBuilt = false ∧ t.li.slot .announce = s.li.slot .announce ∧
        t.stageTx = s.stageTx ∧ ∀ x, (t.outlet x).sp = (s.outlet x).sp ∧ (t.outlet x).sc = (s.outlet x).sc) ∧
      (t.se.state ≠ .unconfigured → t.se.state ≠ .barred → ∀ k, s.cf.config = some k →
        ∀ C qA qB cA cB : Nat, C = t.se.ceiling → qA = s.outletDemand .a → qB = s.outletDemand .b →
          cA = (if qA + qB ≤ C then qA else if qA ≤ qB then min qA (C / 2) else min qA (C - cB)) →
          cB = (if qA + qB ≤ C then qB else if qA ≤ qB then min qB (C - cA) else min qB (C / 2)) →
          t.outA.sp.ordered = cA ∧ t.outB.sp.ordered = cB ∧ cA + cB ≤ C ∧
          t.outA.sp = (if s.outA.sp.ordered = cA then s.outA.sp
            else { s.outA.sp with ordered := cA, isConfirmed := false, orderTimer := .running }) ∧
          t.outB.sp = (if s.outB.sp.ordered = cB then s.outB.sp
            else { s.outB.sp with ordered := cB, isConfirmed := false, orderTimer := .running }) ∧
          t.stageTx = s.stageTx ++ (if s.outA.sp.ordered = cA then [] else [{ outlet := .a, value := cA }]) ++
            (if s.outB.sp.ordered = cB then [] else [{ outlet := .b, value := cB }]) ∧
          (∀ x, (t.outlet x).sc = { (s.outlet x).sc with session := (s.outlet x).sc.session.map fun r => { r with flags := { r.flags with
            reduced := r.flags.reduced || decide ((s.outlet x).sc.state = .energising ∧
              (match x with | .a => cA | .b => cB) < (s.outlet x).sc.requested) } } }) ∧
          t.se.frameBuilt = true ∧ t.se.frameClaim = t.se.claim ∧
          t.li.slot .announce = some (parkFrame .announce s.ownStation
            (bitsByte [decide (t.se.state = .joining), s.pv.isHalted] :: bytesOf 1 s.ownWeight ++ bytesOf 2 (min (qA + qB) k.rated) ++
             bytesOf 2 (min 65535 (max C (t.outA.sp.inForce + t.outB.sp.inForce))) ++ bytesOf 2 t.se.claim ++
             bytesOf 2 (min 65535 (t.outA.mu.lastDraw + t.outB.mu.lastDraw)) ++ bytesOf 1 t.se.parity.toNat)))) ∧
    (∀ k, s.cf.config = some k → s.se.tripInput = true → ∃ t u, exec .round s = .next t ∧
      exec .round { s with se := { s.se with tripInput := false } } = .next u ∧
      (s.se.tripRepeat < 3 → t = { u with se := { u.se with tripInput := true, tripRepeat := s.se.tripRepeat + 1 } }) ∧
      (3 ≤ s.se.tripRepeat →
        t = { u with pv := t.pv, li := t.li, se := t.se, outA := t.outA, outB := t.outB, stageTx := t.stageTx
                     pk := { u.pk with edge := t.pk.edge } } ∧
        t.pv = { u.pv with haltRecord := some { source := s.ownStation, reason := 1 }, hold := max s.pv.hold k.tripSeconds
                           holdTimer := s.pv.holdTimer || decide (s.pv.hold ≤ k.tripSeconds) } ∧
        (if s.se.state = .barred then t.li = u.li
          else Placed u.li t.li .halt (parkFrame .halt s.ownStation [BitVec.ofNat 8 k.tripSeconds, 1])) ∧
        t.se = { u.se with tripInput := true, tripRepeat := 0, ceiling := if s.pv.hold = 0 then 0 else u.se.ceiling
                           claim := if s.pv.hold = 0 then 0 else u.se.claim } ∧
        (0 < s.pv.hold → t = { u with pv := t.pv, li := t.li, se := t.se }) ∧
        (s.pv.hold = 0 → t.isPending .halt = true ∧ (∀ x, (t.outlet x).sp.ordered = 0) ∧ (s.OutletLaw → HaltSuspends u t))))

/-! ## The arithmetic of the share and of the bill -/

/-- R50: over a set in the order of R48 whose members have a weight and a demand, each member is given at most its demand, the parts add
up to no more than the R they share, no member after one that went short is given its full demand, and S is at most the own demand. -/
def Obligations.WaterFillBounds : Prop :=
  (∀ (R : Nat) (ms : List Member), (∀ m ∈ ms, 1 ≤ m.w ∧ 1 ≤ m.q) → ms.Pairwise (fun a b => a.q * b.w ≤ b.q * a.w) →
    ∀ given, given = waterFill R (totalWeight ms) ms →
      given.map Prod.fst = ms.map Member.station ∧
      (∀ (i : Nat) (hi : i < ms.length) (hg : i < given.length), (given[i]).2 ≤ (ms[i]).q) ∧
      (given.map Prod.snd).sum ≤ R ∧
      (∀ (i j : Nat) (hi : i < ms.length) (hj : j < ms.length) (gi : i < given.length) (gj : j < given.length), i < j →
        (given[i]).2 < (ms[i]).q → (given[j]).2 < (ms[j]).q)) ∧
  (∀ (E : Nat) (ps : List PeerEntry) (own q w : Nat), (∀ e ∈ ps, e.station ≠ own) → ownShare E ps own q w ≤ q) ∧
  (∀ ms : List Member, (∀ m ∈ ms, 1 ≤ m.w ∧ 1 ≤ m.q) →
    (sortMembers ms).Perm ms ∧ (sortMembers ms).Pairwise (fun a b => a.q * b.w ≤ b.q * a.w))

/-- R157: in a tariff whose first band starts at minute 0, the band in force is the last band whose start minute is at or below the
minute, and the price handed back is its price. -/
def Obligations.BandInForce : Prop :=
  ∀ (t : Tariff) (m : Nat), t.StartsAtZero → ∃ b, t.bands[(t.bandAt m).1]? = some b ∧ b.price = (t.bandAt m).2 ∧ b.start ≤ m ∧
    ∀ (j : Nat) (c : Band), (t.bandAt m).1 < j → t.bands[j]? = some c → m < c.start

/-- R161: the amount is the total divided by 10,000, rounded down, and 1 more when the remainder is 5,000 or more; it is formed once, at
the settlement, and carried in the record at the tail of the queue. From the largest total it is 15,524,597. -/
def Obligations.SettledAmount : Prop :=
  (∀ total, settledAmount total = total / 10000 + (if 5000 ≤ total % 10000 then 1 else 0)) ∧
  (∀ total, total ≤ 155245966815 → settledAmount total ≤ 15524597) ∧ settledAmount 155245966815 = 15524597 ∧
  (∀ (s : State) (x : Outlet) (r : SessionRecord), (s.outlet x).sc.session = some r →
    (s.settle x).sq.queue = s.sq.queue ++ [s.settlementOf r] ∧ (s.settlementOf r).amount = settledAmount r.total)

/-! ## What every step keeps -/

/-- R91, R95, R126, R137, R138, R144 and R145: every step keeps the laws of the two outlets; and R108, R197, R69, R71, R72 and R82: every
step keeps the ranges of the meter unit's record, the clock and the share engine's counters. That an order timer that has expired may stand
beside a CONFIRMED order is the model's reading of R93 and R105 (log entry 27). -/
def Obligations.StepKeepsOutletLaw : Prop :=
  ∀ s t : State, step s = .next t → (s.OutletLaw → t.OutletLaw) ∧ (s.RangeLaw → t.RangeLaw)

/-- R41, R54, R56 to R58 and R60: every step keeps the law of ceiling, claim and orders. -/
def Obligations.StepKeepsShareLaw : Prop :=
  ∀ s t : State, s.ShareLaw → step s = .next t → t.ShareLaw

/-- R23, R26, R29, R30 and R32: every step keeps the law of the peer view, under which the peer table holds at most 31 entries and no two
with one station number. -/
def Obligations.StepKeepsViewLaw : Prop :=
  ∀ s t : State, s.ViewLaw → step s = .next t →
    t.ViewLaw ∧ t.pv.peers.length ≤ 31 ∧ t.pv.curtail.length ≤ 31 ∧ (t.pv.peers.map PeerEntry.station).Nodup

/-- R142, R153, R155, R156, R158, R161 and R167: every step keeps the law of the settlement queue, the tariff banks and the bill. -/
def Obligations.StepKeepsBillLaw : Prop :=
  ∀ s t : State, s.BillLaw → step s = .next t → t.BillLaw

/-- R53, the law of the raise: the ceiling rises at a round only, in SHARING and not halted to no more than the claim of the previous
round's acknowledged ANNOUNCE and no more than E less the reservations of all peer entries, or in ISOLATED from its ninth round on to no
more than F. -/
def Obligations.CeilingRisesOnlyByClaim : Prop :=
  ∀ (s t : State) (c : Instr), s.ShareLaw → exec c s = .next t → s.se.ceiling < t.se.ceiling → c = .round ∧
    ((t.se.state = .sharing ∧ t.pv.isHalted = false ∧ s.se.frameBuilt = true ∧ s.se.ackReported = true ∧
        t.se.ceiling ≤ s.se.frameClaim ∧
        ∃ E, t.se.figures.budget = some E ∧
          t.se.ceiling + (t.pv.peers.map fun e => max e.ceiling (max e.claim e.draw)).sum ≤ E) ∨
      (t.se.state = .isolated ∧ 9 ≤ t.se.timer ∧ t.se.ceiling ≤ (s.cf.config.map Configuration.fallback).getD 0))

/-- R76, R193, R195 and R197: until a hard reset the straps stand, an accepted configuration stands, the clock stays set and BARRED stays
BARRED. That no command touches the queue of commands is the model's choice (log entry 5). -/
def Obligations.HeldUntilHardReset : Prop :=
  ∀ (s t : State) (c : Instr), exec c s = .next t → t.pending = s.pending ∧
    ((∃ pins levels, c = .hardReset pins levels) ∨
      (t.cf.straps = s.cf.straps ∧ (s.cf.config.isSome = true → t.cf.config = s.cf.config) ∧
        (s.cf.clockSet = true → t.cf.clockSet = true) ∧ (s.se.state = .barred → t.se.state = .barred)))

/-- Chapter 9, R169, R172, R174 and R178: short of a hard reset every record stays in the queue in its order, but for the head that a
RELEASE_SETTLEMENT with its id removes, taken in this very step and answered in it with OK and the number of records left; what else
happens appends at the tail. -/
def Obligations.RecordsLeaveByReleaseOnly : Prop :=
  ∀ (s t : State) (c : Instr), exec c s = .next t →
    (∃ pins levels, c = .hardReset pins levels) ∨ s.sq.queue <+: t.sq.queue ∨
      ∃ e rest, s.sq.queue = e :: rest ∧ t.sq.queue = rest ∧ s.LetsIn c 0x51 (bytesOf 2 e.record.id) ∧
        t.pk.response = (s.answered 0x51 0x00 (bytesOf 1 rest.length)).pk.response

/-- R129: the id counter lies in 1 to 65,535; it moves only when a session is accepted, which takes its value as the id, and then from
65,535 to 1 and else by 1; a hard reset sets it to 1 and a service restart keeps it. -/
def Obligations.SessionIds : Prop :=
  ∀ (s t : State) (c : Instr), 1 ≤ s.nextId → s.nextId ≤ 65535 → exec c s = .next t →
    1 ≤ t.nextId ∧ t.nextId ≤ 65535 ∧
    (∀ pins levels, c = .hardReset pins levels → t.nextId = 1) ∧
    (∀ data, c = .restart data → s.linkFree → t.nextId = s.nextId) ∧
    ((∀ pins levels, c ≠ .hardReset pins levels) → t.nextId = s.nextId ∨
      (t.nextId = (if s.nextId = 65535 then 1 else s.nextId + 1) ∧
        ((∃ r ∈ t.openSessions, r.id = s.nextId) ∨ (∃ e ∈ t.sq.queue, e.record.id = s.nextId))))

/-- Section 1.5 of the scope file with R90, R101, R110, R113 and R121: a line, message or timer of one outlet changes nothing at the other
outlet, and nothing in the line interface, the peer view, the share engine or the configuration and clock. -/
def Obligations.OutletsAreIndependent : Prop :=
  ∀ (s t : State) (c : Instr) (x y : Outlet), c.outletEvent = some x → y ≠ x → exec c s = .next t →
    t.outlet y = s.outlet y ∧ t.cf = s.cf ∧ t.li = s.li ∧ t.pv = s.pv ∧ t.se = s.se ∧ t.estop = s.estop ∧ t.nextId = s.nextId
end

