-- ==== Sys2Proof/Laws/State.lean ====
section
/-! SUPPORT. The small lemmas of State: what each update of one outlet's records leaves and gives. -/

namespace Sys2Proof.Machine

variable (s : State) (x y : Outlet)

/-! ## Outlets after an update of another block -/

@[simp] theorem State.outlet_a : s.outlet .a = s.outA := rfl
@[simp] theorem State.outlet_b : s.outlet .b = s.outB := rfl
@[simp] theorem State.outlet_with_cf (v : ConfigClock) : State.outlet { s with cf := v } x = s.outlet x := by cases x <;> rfl
@[simp] theorem State.outlet_with_li (v : LineInterface) : State.outlet { s with li := v } x = s.outlet x := by cases x <;> rfl
@[simp] theorem State.outlet_with_pv (v : PeerView) : State.outlet { s with pv := v } x = s.outlet x := by cases x <;> rfl
@[simp] theorem State.outlet_with_se (v : ShareEngine) : State.outlet { s with se := v } x = s.outlet x := by cases x <;> rfl
@[simp] theorem State.outlet_with_estop (v : Bool) : State.outlet { s with estop := v } x = s.outlet x := by cases x <;> rfl
@[simp] theorem State.outlet_with_stageTx (v : List Setpoint) : State.outlet { s with stageTx := v } x = s.outlet x := by cases x <;> rfl
@[simp] theorem State.outlet_with_nextId (v : Nat) : State.outlet { s with nextId := v } x = s.outlet x := by cases x <;> rfl
@[simp] theorem State.outlet_with_ts (v : TariffStore) : State.outlet { s with ts := v } x = s.outlet x := by cases x <;> rfl
@[simp] theorem State.outlet_with_sq (v : SettlementQueue) : State.outlet { s with sq := v } x = s.outlet x := by cases x <;> rfl
@[simp] theorem State.outlet_with_pk (v : PedestalLink) : State.outlet { s with pk := v } x = s.outlet x := by cases x <;> rfl
@[simp] theorem State.outlet_with_pending (v : List Instr) : State.outlet { s with pending := v } x = s.outlet x := by cases x <;> rfl

/-- The outlets are the two records, whatever the other fields are. -/
theorem State.outlet_mk (cf li pv se a b e tx n ts sq pk q) :
    State.outlet ⟨cf, li, pv, se, a, b, e, tx, n, ts, sq, pk, q⟩ x = (match x with | .a => a | .b => b) := by cases x <;> rfl

/-! ## Replacing one outlet's records -/

@[simp] theorem State.setOutlet_same (o : OutletRecord) : (s.setOutlet x o).outlet x = o := by cases x <;> rfl

theorem State.setOutlet_other (o : OutletRecord) (h : y ≠ x) : (s.setOutlet x o).outlet y = s.outlet y := by
  cases x <;> cases y <;> first | rfl | exact absurd rfl h

@[simp] theorem State.setOutlet_frame (o : OutletRecord) :
    (s.setOutlet x o).cf = s.cf ∧
    (s.setOutlet x o).li = s.li ∧
    (s.setOutlet x o).pv = s.pv ∧
    (s.setOutlet x o).se = s.se ∧
    (s.setOutlet x o).estop = s.estop ∧
    (s.setOutlet x o).stageTx = s.stageTx ∧
    (s.setOutlet x o).nextId = s.nextId ∧
    (s.setOutlet x o).ts = s.ts ∧
    (s.setOutlet x o).sq = s.sq ∧
    (s.setOutlet x o).pk = s.pk ∧
    (s.setOutlet x o).pending = s.pending := by cases x <;> simp [State.setOutlet]

/-! ## Changing sp of one outlet -/

@[simp] theorem State.modSp_same (f : StageOutlet → StageOutlet) :
    (s.modSp x f).outlet x = { s.outlet x with sp := f (s.outlet x).sp } := by simp [State.modSp]

theorem State.modSp_other (f : StageOutlet → StageOutlet) (h : y ≠ x) : (s.modSp x f).outlet y = s.outlet y := by
  simp [State.modSp, State.setOutlet_other, h]

@[simp] theorem State.modSp_frame (f : StageOutlet → StageOutlet) :
    (s.modSp x f).cf = s.cf ∧
    (s.modSp x f).li = s.li ∧
    (s.modSp x f).pv = s.pv ∧
    (s.modSp x f).se = s.se ∧
    (s.modSp x f).estop = s.estop ∧
    (s.modSp x f).stageTx = s.stageTx ∧
    (s.modSp x f).nextId = s.nextId ∧
    (s.modSp x f).ts = s.ts ∧
    (s.modSp x f).sq = s.sq ∧
    (s.modSp x f).pk = s.pk ∧
    (s.modSp x f).pending = s.pending := by simp [State.modSp]

@[simp] theorem State.modSp_mu (f : StageOutlet → StageOutlet) : ((s.modSp x f).outlet y).mu = (s.outlet y).mu := by
  cases x <;> cases y <;> rfl

@[simp] theorem State.modSp_sc (f : StageOutlet → StageOutlet) : ((s.modSp x f).outlet y).sc = (s.outlet y).sc := by
  cases x <;> cases y <;> rfl

theorem State.modSp_sp (f : StageOutlet → StageOutlet) :
    ((s.modSp x f).outlet y).sp = if y = x then f (s.outlet x).sp else (s.outlet y).sp := by
  cases x <;> cases y <;> rfl

/-! ## Changing mu of one outlet -/

@[simp] theorem State.modMu_same (f : MeterOutlet → MeterOutlet) :
    (s.modMu x f).outlet x = { s.outlet x with mu := f (s.outlet x).mu } := by simp [State.modMu]

theorem State.modMu_other (f : MeterOutlet → MeterOutlet) (h : y ≠ x) : (s.modMu x f).outlet y = s.outlet y := by
  simp [State.modMu, State.setOutlet_other, h]

@[simp] theorem State.modMu_frame (f : MeterOutlet → MeterOutlet) :
    (s.modMu x f).cf = s.cf ∧
    (s.modMu x f).li = s.li ∧
    (s.modMu x f).pv = s.pv ∧
    (s.modMu x f).se = s.se ∧
    (s.modMu x f).estop = s.estop ∧
    (s.modMu x f).stageTx = s.stageTx ∧
    (s.modMu x f).nextId = s.nextId ∧
    (s.modMu x f).ts = s.ts ∧
    (s.modMu x f).sq = s.sq ∧
    (s.modMu x f).pk = s.pk ∧
    (s.modMu x f).pending = s.pending := by simp [State.modMu]

@[simp] theorem State.modMu_sp (f : MeterOutlet → MeterOutlet) : ((s.modMu x f).outlet y).sp = (s.outlet y).sp := by
  cases x <;> cases y <;> rfl

@[simp] theorem State.modMu_sc (f : MeterOutlet → MeterOutlet) : ((s.modMu x f).outlet y).sc = (s.outlet y).sc := by
  cases x <;> cases y <;> rfl

theorem State.modMu_mu (f : MeterOutlet → MeterOutlet) :
    ((s.modMu x f).outlet y).mu = if y = x then f (s.outlet x).mu else (s.outlet y).mu := by
  cases x <;> cases y <;> rfl

/-! ## Changing sc of one outlet -/

@[simp] theorem State.modSc_same (f : SessionOutlet → SessionOutlet) :
    (s.modSc x f).outlet x = { s.outlet x with sc := f (s.outlet x).sc } := by simp [State.modSc]

theorem State.modSc_other (f : SessionOutlet → SessionOutlet) (h : y ≠ x) : (s.modSc x f).outlet y = s.outlet y := by
  simp [State.modSc, State.setOutlet_other, h]

@[simp] theorem State.modSc_frame (f : SessionOutlet → SessionOutlet) :
    (s.modSc x f).cf = s.cf ∧
    (s.modSc x f).li = s.li ∧
    (s.modSc x f).pv = s.pv ∧
    (s.modSc x f).se = s.se ∧
    (s.modSc x f).estop = s.estop ∧
    (s.modSc x f).stageTx = s.stageTx ∧
    (s.modSc x f).nextId = s.nextId ∧
    (s.modSc x f).ts = s.ts ∧
    (s.modSc x f).sq = s.sq ∧
    (s.modSc x f).pk = s.pk ∧
    (s.modSc x f).pending = s.pending := by simp [State.modSc]

@[simp] theorem State.modSc_sp (f : SessionOutlet → SessionOutlet) : ((s.modSc x f).outlet y).sp = (s.outlet y).sp := by
  cases x <;> cases y <;> rfl

@[simp] theorem State.modSc_mu (f : SessionOutlet → SessionOutlet) : ((s.modSc x f).outlet y).mu = (s.outlet y).mu := by
  cases x <;> cases y <;> rfl

theorem State.modSc_sc (f : SessionOutlet → SessionOutlet) :
    ((s.modSc x f).outlet y).sc = if y = x then f (s.outlet x).sc else (s.outlet y).sc := by
  cases x <;> cases y <;> rfl

end Sys2Proof.Machine
end

