-- ==== Sys2Proof/Laws/Frames.lean ====
section
/-! SUPPORT. For each shared operation of Machine/Ops.lean, what it leaves unchanged: the blocks it does not act on, the
other outlet, and the records of the outlet that it does not touch. -/

namespace Sys2Proof.Machine

variable (s : State) (x y : Outlet)

/-! ## Raising a cause -/

@[simp] theorem State.raise_frame (c : Cause) :
    (s.raise c).cf = s.cf ∧
    (s.raise c).li = s.li ∧
    (s.raise c).pv = s.pv ∧
    (s.raise c).se = s.se ∧
    (s.raise c).outA = s.outA ∧
    (s.raise c).outB = s.outB ∧
    (s.raise c).estop = s.estop ∧
    (s.raise c).stageTx = s.stageTx ∧
    (s.raise c).nextId = s.nextId ∧
    (s.raise c).ts = s.ts ∧
    (s.raise c).sq = s.sq ∧
    (s.raise c).pending = s.pending := by
  simp [State.raise]

@[simp] theorem State.raise_outlet (c : Cause) : (s.raise c).outlet x = s.outlet x := by cases x <;> rfl

@[simp] theorem State.raise_link (c : Cause) :
    (s.raise c).pk = { s.pk with edge := s.pk.edge ||| BitVec.twoPow 9 c.index } := rfl

/-! ## modSession -/

@[simp] theorem State.modSession_frame (f : SessionRecord → SessionRecord) :
    (s.modSession x f).cf = s.cf ∧
    (s.modSession x f).li = s.li ∧
    (s.modSession x f).pv = s.pv ∧
    (s.modSession x f).se = s.se ∧
    (s.modSession x f).estop = s.estop ∧
    (s.modSession x f).stageTx = s.stageTx ∧
    (s.modSession x f).nextId = s.nextId ∧
    (s.modSession x f).ts = s.ts ∧
    (s.modSession x f).sq = s.sq ∧
    (s.modSession x f).pk = s.pk ∧
    (s.modSession x f).pending = s.pending := by
  simp [State.modSession]

@[simp] theorem State.modSession_sp (f : SessionRecord → SessionRecord) : ((s.modSession x f).outlet y).sp = (s.outlet y).sp := by
  simp [State.modSession]

@[simp] theorem State.modSession_mu (f : SessionRecord → SessionRecord) : ((s.modSession x f).outlet y).mu = (s.outlet y).mu := by
  simp [State.modSession]

theorem State.modSession_other (f : SessionRecord → SessionRecord) (h : y ≠ x) : (s.modSession x f).outlet y = s.outlet y := by
  simp [State.modSession, h, State.modSc_other]

/-! ## modFlags -/

@[simp] theorem State.modFlags_frame (f : SessionFlags → SessionFlags) :
    (s.modFlags x f).cf = s.cf ∧
    (s.modFlags x f).li = s.li ∧
    (s.modFlags x f).pv = s.pv ∧
    (s.modFlags x f).se = s.se ∧
    (s.modFlags x f).estop = s.estop ∧
    (s.modFlags x f).stageTx = s.stageTx ∧
    (s.modFlags x f).nextId = s.nextId ∧
    (s.modFlags x f).ts = s.ts ∧
    (s.modFlags x f).sq = s.sq ∧
    (s.modFlags x f).pk = s.pk ∧
    (s.modFlags x f).pending = s.pending := by
  simp [State.modFlags]

@[simp] theorem State.modFlags_sp (f : SessionFlags → SessionFlags) : ((s.modFlags x f).outlet y).sp = (s.outlet y).sp := by
  simp [State.modFlags]

@[simp] theorem State.modFlags_mu (f : SessionFlags → SessionFlags) : ((s.modFlags x f).outlet y).mu = (s.outlet y).mu := by
  simp [State.modFlags]

theorem State.modFlags_other (f : SessionFlags → SessionFlags) (h : y ≠ x) : (s.modFlags x f).outlet y = s.outlet y := by
  simp [State.modFlags, h, State.modSession_other]

/-! ## endWith -/

@[simp] theorem State.endWith_frame (r : Nat) :
    (s.endWith x r).cf = s.cf ∧
    (s.endWith x r).li = s.li ∧
    (s.endWith x r).pv = s.pv ∧
    (s.endWith x r).se = s.se ∧
    (s.endWith x r).estop = s.estop ∧
    (s.endWith x r).stageTx = s.stageTx ∧
    (s.endWith x r).nextId = s.nextId ∧
    (s.endWith x r).ts = s.ts ∧
    (s.endWith x r).sq = s.sq ∧
    (s.endWith x r).pk = s.pk ∧
    (s.endWith x r).pending = s.pending := by
  simp [State.endWith]

@[simp] theorem State.endWith_sp (r : Nat) : ((s.endWith x r).outlet y).sp = (s.outlet y).sp := by
  simp [State.endWith]

@[simp] theorem State.endWith_mu (r : Nat) : ((s.endWith x r).outlet y).mu = (s.outlet y).mu := by
  simp [State.endWith]

theorem State.endWith_other (r : Nat) (h : y ≠ x) : (s.endWith x r).outlet y = s.outlet y := by
  simp [State.endWith, h, State.modSession_other]

/-! ## enter -/

@[simp] theorem State.enter_frame (st : OutletState) :
    (s.enter x st).cf = s.cf ∧
    (s.enter x st).li = s.li ∧
    (s.enter x st).pv = s.pv ∧
    (s.enter x st).se = s.se ∧
    (s.enter x st).estop = s.estop ∧
    (s.enter x st).stageTx = s.stageTx ∧
    (s.enter x st).nextId = s.nextId ∧
    (s.enter x st).ts = s.ts ∧
    (s.enter x st).sq = s.sq ∧
    (s.enter x st).pending = s.pending := by
  unfold State.enter; split <;> simp

@[simp] theorem State.enter_sp (st : OutletState) : ((s.enter x st).outlet y).sp = (s.outlet y).sp := by
  unfold State.enter; split <;> simp

theorem State.enter_other (st : OutletState) (h : y ≠ x) : (s.enter x st).outlet y = s.outlet y := by
  unfold State.enter; split <;> simp [h, State.modMu_other, State.modSc_other]

/-! ## order -/

@[simp] theorem State.order_frame (v : Nat) :
    (s.order x v).cf = s.cf ∧
    (s.order x v).li = s.li ∧
    (s.order x v).pv = s.pv ∧
    (s.order x v).se = s.se ∧
    (s.order x v).estop = s.estop ∧
    (s.order x v).nextId = s.nextId ∧
    (s.order x v).ts = s.ts ∧
    (s.order x v).sq = s.sq ∧
    (s.order x v).pk = s.pk ∧
    (s.order x v).pending = s.pending := by
  unfold State.order; split <;> simp

@[simp] theorem State.order_mu (v : Nat) : ((s.order x v).outlet y).mu = (s.outlet y).mu := by
  unfold State.order; split
  · rfl
  · cases x <;> cases y <;> rfl

@[simp] theorem State.order_sc (v : Nat) : ((s.order x v).outlet y).sc = (s.outlet y).sc := by
  unfold State.order; split
  · rfl
  · cases x <;> cases y <;> rfl

theorem State.order_other (v : Nat) (h : y ≠ x) : (s.order x v).outlet y = s.outlet y := by
  unfold State.order; split
  · rfl
  · cases x <;> cases y <;> first | rfl | exact absurd rfl h

/-! ## settleRecord -/

@[simp] theorem State.settleRecord_frame :
    (s.settleRecord x).cf = s.cf ∧
    (s.settleRecord x).li = s.li ∧
    (s.settleRecord x).pv = s.pv ∧
    (s.settleRecord x).se = s.se ∧
    (s.settleRecord x).estop = s.estop ∧
    (s.settleRecord x).stageTx = s.stageTx ∧
    (s.settleRecord x).nextId = s.nextId ∧
    (s.settleRecord x).pk = s.pk ∧
    (s.settleRecord x).pending = s.pending := by
  unfold State.settleRecord; cases (s.outlet x).sc.session <;> simp

@[simp] theorem State.settleRecord_sp : ((s.settleRecord x).outlet y).sp = (s.outlet y).sp := by
  unfold State.settleRecord; cases (s.outlet x).sc.session <;> cases x <;> cases y <;> rfl

theorem State.settleRecord_other (h : y ≠ x) : (s.settleRecord x).outlet y = s.outlet y := by
  unfold State.settleRecord; cases (s.outlet x).sc.session <;> cases x <;> cases y <;> first | rfl | exact absurd rfl h

/-! ## settle -/

@[simp] theorem State.settle_frame :
    (s.settle x).cf = s.cf ∧
    (s.settle x).li = s.li ∧
    (s.settle x).pv = s.pv ∧
    (s.settle x).se = s.se ∧
    (s.settle x).estop = s.estop ∧
    (s.settle x).stageTx = s.stageTx ∧
    (s.settle x).nextId = s.nextId ∧
    (s.settle x).pending = s.pending := by
  simp [State.settle]

@[simp] theorem State.settle_sp : ((s.settle x).outlet y).sp = (s.outlet y).sp := by
  simp [State.settle]

theorem State.settle_other (h : y ≠ x) : (s.settle x).outlet y = s.outlet y := by
  simp [State.settle, h, State.settleRecord_other, State.enter_other]

/-! ## leaveClosing -/

@[simp] theorem State.leaveClosing_frame :
    (s.leaveClosing x).cf = s.cf ∧
    (s.leaveClosing x).li = s.li ∧
    (s.leaveClosing x).pv = s.pv ∧
    (s.leaveClosing x).se = s.se ∧
    (s.leaveClosing x).estop = s.estop ∧
    (s.leaveClosing x).stageTx = s.stageTx ∧
    (s.leaveClosing x).nextId = s.nextId ∧
    (s.leaveClosing x).pending = s.pending := by
  unfold State.leaveClosing; split <;> (try split) <;> simp

@[simp] theorem State.leaveClosing_sp : ((s.leaveClosing x).outlet y).sp = (s.outlet y).sp := by
  unfold State.leaveClosing; split <;> (try split) <;> simp

theorem State.leaveClosing_other (h : y ≠ x) : (s.leaveClosing x).outlet y = s.outlet y := by
  unfold State.leaveClosing; split <;> (try split) <;> simp [h, State.settle_other, State.enter_other, State.modSc_other]

/-! ## contactorOpened -/

@[simp] theorem State.contactorOpened_frame :
    (s.contactorOpened x).cf = s.cf ∧
    (s.contactorOpened x).li = s.li ∧
    (s.contactorOpened x).pv = s.pv ∧
    (s.contactorOpened x).se = s.se ∧
    (s.contactorOpened x).estop = s.estop ∧
    (s.contactorOpened x).stageTx = s.stageTx ∧
    (s.contactorOpened x).nextId = s.nextId ∧
    (s.contactorOpened x).pending = s.pending := by
  unfold State.contactorOpened; split <;> (try split) <;> (try split) <;> simp

@[simp] theorem State.contactorOpened_sp : ((s.contactorOpened x).outlet y).sp = (s.outlet y).sp := by
  unfold State.contactorOpened; split <;> (try split) <;> (try split) <;> simp

theorem State.contactorOpened_other (h : y ≠ x) : (s.contactorOpened x).outlet y = s.outlet y := by
  unfold State.contactorOpened; split <;> (try split) <;> (try split) <;> simp [h, State.leaveClosing_other, State.settle_other, State.enter_other]

/-! ## commandOpen -/

@[simp] theorem State.commandOpen_frame :
    (s.commandOpen x).cf = s.cf ∧
    (s.commandOpen x).li = s.li ∧
    (s.commandOpen x).pv = s.pv ∧
    (s.commandOpen x).se = s.se ∧
    (s.commandOpen x).estop = s.estop ∧
    (s.commandOpen x).nextId = s.nextId ∧
    (s.commandOpen x).pending = s.pending := by
  unfold State.commandOpen; simp only []; split <;> (try split) <;> simp

theorem State.commandOpen_other (h : y ≠ x) : (s.commandOpen x).outlet y = s.outlet y := by
  unfold State.commandOpen; simp only []; split <;> (try split) <;> simp [h, State.order_other, State.modSp_other, State.contactorOpened_other]

/-! ## commandClose -/

@[simp] theorem State.commandClose_frame :
    (s.commandClose x).cf = s.cf ∧
    (s.commandClose x).li = s.li ∧
    (s.commandClose x).pv = s.pv ∧
    (s.commandClose x).se = s.se ∧
    (s.commandClose x).estop = s.estop ∧
    (s.commandClose x).stageTx = s.stageTx ∧
    (s.commandClose x).nextId = s.nextId ∧
    (s.commandClose x).ts = s.ts ∧
    (s.commandClose x).sq = s.sq ∧
    (s.commandClose x).pk = s.pk ∧
    (s.commandClose x).pending = s.pending := by
  unfold State.commandClose; split <;> simp

@[simp] theorem State.commandClose_mu : ((s.commandClose x).outlet y).mu = (s.outlet y).mu := by
  unfold State.commandClose; split <;> simp

@[simp] theorem State.commandClose_sc : ((s.commandClose x).outlet y).sc = (s.outlet y).sc := by
  unfold State.commandClose; split <;> simp

theorem State.commandClose_other (h : y ≠ x) : (s.commandClose x).outlet y = s.outlet y := by
  unfold State.commandClose; split <;> simp [h, State.modSp_other]

/-! ## openStep -/

@[simp] theorem State.openStep_frame :
    (s.openStep x).cf = s.cf ∧
    (s.openStep x).li = s.li ∧
    (s.openStep x).pv = s.pv ∧
    (s.openStep x).se = s.se ∧
    (s.openStep x).estop = s.estop ∧
    (s.openStep x).nextId = s.nextId ∧
    (s.openStep x).pending = s.pending := by
  simp [State.openStep]

theorem State.openStep_other (h : y ≠ x) : (s.openStep x).outlet y = s.outlet y := by
  simp [State.openStep, h, State.modSc_other, State.commandOpen_other]

/-! ## endRampDown -/

@[simp] theorem State.endRampDown_frame :
    (s.endRampDown x).cf = s.cf ∧
    (s.endRampDown x).li = s.li ∧
    (s.endRampDown x).pv = s.pv ∧
    (s.endRampDown x).se = s.se ∧
    (s.endRampDown x).estop = s.estop ∧
    (s.endRampDown x).nextId = s.nextId ∧
    (s.endRampDown x).pending = s.pending := by
  unfold State.endRampDown; split <;> simp

theorem State.endRampDown_other (h : y ≠ x) : (s.endRampDown x).outlet y = s.outlet y := by
  unfold State.endRampDown; split <;> simp [h, State.openStep_other]

/-! ## openConfirmed -/

@[simp] theorem State.openConfirmed_frame :
    (s.openConfirmed x).cf = s.cf ∧
    (s.openConfirmed x).li = s.li ∧
    (s.openConfirmed x).pv = s.pv ∧
    (s.openConfirmed x).se = s.se ∧
    (s.openConfirmed x).estop = s.estop ∧
    (s.openConfirmed x).nextId = s.nextId ∧
    (s.openConfirmed x).pending = s.pending := by
  unfold State.openConfirmed; simp only []; split <;> (try split) <;> simp

theorem State.openConfirmed_other (h : y ≠ x) : (s.openConfirmed x).outlet y = s.outlet y := by
  unfold State.openConfirmed; simp only []; split <;> (try split) <;> simp [h, State.modSp_other, State.contactorOpened_other, State.endRampDown_other, State.commandClose_other]

/-! ## ordinaryStop -/

@[simp] theorem State.ordinaryStop_frame (r : Nat) :
    (s.ordinaryStop x r).cf = s.cf ∧
    (s.ordinaryStop x r).li = s.li ∧
    (s.ordinaryStop x r).pv = s.pv ∧
    (s.ordinaryStop x r).se = s.se ∧
    (s.ordinaryStop x r).estop = s.estop ∧
    (s.ordinaryStop x r).nextId = s.nextId ∧
    (s.ordinaryStop x r).pending = s.pending := by
  unfold State.ordinaryStop; simp only []; split <;> simp

theorem State.ordinaryStop_other (r : Nat) (h : y ≠ x) : (s.ordinaryStop x r).outlet y = s.outlet y := by
  unfold State.ordinaryStop; simp only []; split <;> simp [h, State.endWith_other, State.modSc_other, State.enter_other, State.order_other, State.modSp_other, State.openStep_other]

/-! ## quickStop -/

@[simp] theorem State.quickStop_frame (r : Nat) :
    (s.quickStop x r).cf = s.cf ∧
    (s.quickStop x r).li = s.li ∧
    (s.quickStop x r).pv = s.pv ∧
    (s.quickStop x r).se = s.se ∧
    (s.quickStop x r).estop = s.estop ∧
    (s.quickStop x r).nextId = s.nextId ∧
    (s.quickStop x r).pending = s.pending := by
  simp [State.quickStop]

theorem State.quickStop_other (r : Nat) (h : y ≠ x) : (s.quickStop x r).outlet y = s.outlet y := by
  simp [State.quickStop, h, State.endWith_other, State.enter_other, State.order_other, State.openStep_other]

/-! ## endAndSettle -/

@[simp] theorem State.endAndSettle_frame (r : Nat) :
    (s.endAndSettle x r).cf = s.cf ∧
    (s.endAndSettle x r).li = s.li ∧
    (s.endAndSettle x r).pv = s.pv ∧
    (s.endAndSettle x r).se = s.se ∧
    (s.endAndSettle x r).estop = s.estop ∧
    (s.endAndSettle x r).stageTx = s.stageTx ∧
    (s.endAndSettle x r).nextId = s.nextId ∧
    (s.endAndSettle x r).pending = s.pending := by
  simp [State.endAndSettle]

@[simp] theorem State.endAndSettle_sp (r : Nat) : ((s.endAndSettle x r).outlet y).sp = (s.outlet y).sp := by
  simp [State.endAndSettle]

theorem State.endAndSettle_other (r : Nat) (h : y ≠ x) : (s.endAndSettle x r).outlet y = s.outlet y := by
  simp [State.endAndSettle, h, State.endWith_other, State.settle_other]

/-! ## connect -/

@[simp] theorem State.connect_frame :
    (s.connect x).cf = s.cf ∧
    (s.connect x).li = s.li ∧
    (s.connect x).pv = s.pv ∧
    (s.connect x).se = s.se ∧
    (s.connect x).estop = s.estop ∧
    (s.connect x).nextId = s.nextId ∧
    (s.connect x).pending = s.pending := by
  unfold State.connect; split <;> simp

theorem State.connect_other (h : y ≠ x) : (s.connect x).outlet y = s.outlet y := by
  unfold State.connect; split <;> simp [h, State.ordinaryStop_other, State.enter_other, State.commandClose_other]

/-! ## weldSuspect -/

@[simp] theorem State.weldSuspect_frame :
    (s.weldSuspect x).cf = s.cf ∧
    (s.weldSuspect x).li = s.li ∧
    (s.weldSuspect x).pv = s.pv ∧
    (s.weldSuspect x).se = s.se ∧
    (s.weldSuspect x).estop = s.estop ∧
    (s.weldSuspect x).nextId = s.nextId ∧
    (s.weldSuspect x).pending = s.pending := by
  unfold State.weldSuspect; simp only []; split <;> simp

theorem State.weldSuspect_other (h : y ≠ x) : (s.weldSuspect x).outlet y = s.outlet y := by
  unfold State.weldSuspect; simp only []; split <;> simp [h, State.endWith_other, State.order_other, State.modFlags_other, State.settleRecord_other, State.enter_other]

/-! ## weld -/

@[simp] theorem State.weld_frame :
    (s.weld x).cf = s.cf ∧
    (s.weld x).li = s.li ∧
    (s.weld x).pv = s.pv ∧
    (s.weld x).se = s.se ∧
    (s.weld x).estop = s.estop ∧
    (s.weld x).nextId = s.nextId ∧
    (s.weld x).pending = s.pending := by
  simp [State.weld]

theorem State.weld_other (h : y ≠ x) : (s.weld x).outlet y = s.outlet y := by
  simp [State.weld, h, State.modSp_other, State.weldSuspect_other]

/-! ## testCaps -/

@[simp] theorem State.testCaps_frame :
    (s.testCaps x).cf = s.cf ∧
    (s.testCaps x).li = s.li ∧
    (s.testCaps x).pv = s.pv ∧
    (s.testCaps x).se = s.se ∧
    (s.testCaps x).estop = s.estop ∧
    (s.testCaps x).nextId = s.nextId ∧
    (s.testCaps x).pending = s.pending := by
  unfold State.testCaps; split <;> (try split) <;> simp

theorem State.testCaps_other (h : y ≠ x) : (s.testCaps x).outlet y = s.outlet y := by
  unfold State.testCaps; split <;> (try split) <;> simp [h, State.ordinaryStop_other]

/-! ## deliver -/

@[simp] theorem State.deliver_frame (w m : Nat) :
    (s.deliver x w m).cf = s.cf ∧
    (s.deliver x w m).li = s.li ∧
    (s.deliver x w m).pv = s.pv ∧
    (s.deliver x w m).se = s.se ∧
    (s.deliver x w m).estop = s.estop ∧
    (s.deliver x w m).nextId = s.nextId ∧
    (s.deliver x w m).pending = s.pending := by
  unfold State.deliver; split <;> simp only [] <;> (try split) <;> (try split) <;> simp

theorem State.deliver_other (w m : Nat) (h : y ≠ x) : (s.deliver x w m).outlet y = s.outlet y := by
  unfold State.deliver; split <;> simp only [] <;> (try split) <;> (try split) <;> simp [h, State.testCaps_other, State.modSession_other, State.ordinaryStop_other]

/-! ## suspend -/

@[simp] theorem State.suspend_frame :
    (s.suspend x).cf = s.cf ∧
    (s.suspend x).li = s.li ∧
    (s.suspend x).pv = s.pv ∧
    (s.suspend x).se = s.se ∧
    (s.suspend x).estop = s.estop ∧
    (s.suspend x).nextId = s.nextId ∧
    (s.suspend x).pending = s.pending := by
  unfold State.suspend; split <;> simp

theorem State.suspend_other (h : y ≠ x) : (s.suspend x).outlet y = s.outlet y := by
  unfold State.suspend; split <;> simp [h, State.enter_other, State.modFlags_other, State.commandOpen_other]

/-! ## resume -/

@[simp] theorem State.resume_frame :
    (s.resume x).cf = s.cf ∧
    (s.resume x).li = s.li ∧
    (s.resume x).pv = s.pv ∧
    (s.resume x).se = s.se ∧
    (s.resume x).estop = s.estop ∧
    (s.resume x).nextId = s.nextId ∧
    (s.resume x).pending = s.pending := by
  unfold State.resume; split <;> simp

theorem State.resume_other (h : y ≠ x) : (s.resume x).outlet y = s.outlet y := by
  unfold State.resume; split <;> simp [h, State.connect_other]

/-! ## clashOutlet -/

@[simp] theorem State.clashOutlet_frame :
    (s.clashOutlet x).cf = s.cf ∧
    (s.clashOutlet x).li = s.li ∧
    (s.clashOutlet x).pv = s.pv ∧
    (s.clashOutlet x).se = s.se ∧
    (s.clashOutlet x).estop = s.estop ∧
    (s.clashOutlet x).nextId = s.nextId ∧
    (s.clashOutlet x).pending = s.pending := by
  unfold State.clashOutlet; split <;> simp

theorem State.clashOutlet_other (h : y ≠ x) : (s.clashOutlet x).outlet y = s.outlet y := by
  unfold State.clashOutlet; split <;> simp [h, State.quickStop_other, State.endWith_other, State.endRampDown_other, State.endAndSettle_other]

end Sys2Proof.Machine
end

