-- ==== Sys2Proof/Laws/Ops.lean ====
section
/-! SUPPORT. For shared operations of Machine/Ops.lean, one lemma each that says what the operation does; what each leaves
unchanged stands in Laws/Frames.lean. -/

namespace Sys2Proof.Machine

variable (s : State) (x : Outlet)

/-! ## Orders (R92) -/

/-- R92: an equal value changes nothing; another value is recorded UNCONFIRMED, sent, and starts the order timer. -/
theorem State.order_spec (v : Nat) :
    (v = (s.outlet x).sp.ordered → s.order x v = s) ∧
    (v ≠ (s.outlet x).sp.ordered →
      ((s.order x v).outlet x).sp = { (s.outlet x).sp with ordered := v, isConfirmed := false, orderTimer := .running } ∧
      (s.order x v).stageTx = s.stageTx ++ [{ outlet := x, value := v }]) := by
  constructor
  · intro h; simp [State.order, h]
  · intro h; rw [State.order, if_neg h]; cases x <;> exact ⟨rfl, rfl⟩

/-- After an order the value stands ordered. -/
@[simp] theorem State.order_ordered (v : Nat) : ((s.order x v).outlet x).sp.ordered = v := by
  by_cases h : v = (s.outlet x).sp.ordered
  · simp [State.order, ← h]
  · simp only [State.order, if_neg h]; cases x <;> rfl

/-- An order leaves the contactor, its timer and the lines as they are. -/
theorem State.order_contactor (v : Nat) :
    ((s.order x v).outlet x).sp.contactor = (s.outlet x).sp.contactor ∧
    ((s.order x v).outlet x).sp.driveClosed = (s.outlet x).sp.driveClosed ∧
    ((s.order x v).outlet x).sp.contactorTimer = (s.outlet x).sp.contactorTimer ∧
    ((s.order x v).outlet x).sp.pendingClose = (s.outlet x).sp.pendingClose ∧
    ((s.order x v).outlet x).sp.feedbackClosed = (s.outlet x).sp.feedbackClosed ∧
    ((s.order x v).outlet x).sp.plugPresent = (s.outlet x).sp.plugPresent ∧
    ((s.order x v).outlet x).sp.confirmed = (s.outlet x).sp.confirmed := by
  by_cases h : v = (s.outlet x).sp.ordered
  · simp [State.order, h]
  · simp only [State.order, if_neg h]; cases x <;> exact ⟨rfl, rfl, rfl, rfl, rfl, rfl, rfl⟩

/-- R93, R99 and R105: a confirmation stops the order timer, but for one that has expired on the order. -/
theorem OrderTimer.onConfirmation_eq (t : OrderTimer) : t.onConfirmation = if t = .expired then .expired else .stopped := by
  cases t <;> rfl

/-! ## Transmit slots (R9) -/

/-- R9: a station that is not BARRED places the frame, and nothing else of the part changes. -/
theorem State.placeFrame_spec (k : FrameKind) (bytes : List Byte) :
    (s.se.state = .barred → s.placeFrame k bytes = s) ∧
    (s.se.state ≠ .barred → Placed s.li (s.placeFrame k bytes).li k bytes ∧
      s.placeFrame k bytes = { s with li := (s.placeFrame k bytes).li }) := by
  constructor
  · intro h; simp [State.placeFrame, h]
  · intro h
    rw [State.placeFrame, if_neg h]
    refine ⟨⟨?_, ?_, ?_, ?_⟩, rfl⟩
    · intro j; cases k <;> cases j <;> rfl
    · intro j old r e; simp [LineActivity.replace, e, eq_comm]
    · intro e
      cases a : s.li.activity with
      | sending j old r => exact absurd a (e j old r)
      | receiving => simp [LineActivity.replace]
      | quiet => simp [LineActivity.replace]
    · cases k <;> exact ⟨rfl, rfl, rfl, rfl, rfl⟩

/-! ## Outlet states (R121, R126) -/

/-- R126 and R121: the outlet stands in the state; a change raises the outlet's cause and sets the silence timer to run in
ENERGISING only. -/
theorem State.enter_spec (st : OutletState) :
    ((s.enter x st).outlet x).sc = { (s.outlet x).sc with state := st } ∧
    ((s.outlet x).sc.state ≠ st →
      ((s.enter x st).outlet x).mu = { (s.outlet x).mu with silenceTimer := decide (st = .energising) } ∧
      (s.enter x st).pk = { s.pk with edge := s.pk.edge ||| BitVec.twoPow 9 (Cause.ofOutlet x).index }) ∧
    ((s.outlet x).sc.state = st → s.enter x st = s) := by
  by_cases h : (s.outlet x).sc.state = st
  · subst h; simp [State.enter]
  · simp [State.enter, h]

/-- A change of the outlet state leaves its cause pending (R126, R186). -/
theorem State.enter_pending (st : OutletState) (h : (s.outlet x).sc.state ≠ st) :
    (s.enter x st).isPending (Cause.ofOutlet x) = true := by
  rw [State.isPending, ((s.enter_spec x st).2.1 h).2]
  cases x <;> simp [Cause.ofOutlet, Cause.index]

/-! ## Settling (R146, R156, R169) -/

/-- R146: the amount and the record that the queue gains are those of `State.settlementOf`. -/
theorem SettlementQueue.append_complete (q : SettlementQueue) (r : SessionRecord) :
    q.append (r.complete s.cf.day s.cf.second) =
      { queue := q.queue ++ [s.settlementOf r], reserved := q.reserved - 1 } := by
  have e : (r.complete s.cf.day s.cf.second).total = r.total := rfl
  have a : settledAmount r.total = (r.total + 5000) / 10000 := by
    simp only [settledAmount, Config.microPerHundredth, Config.roundUpFrom]; split <;> omega
  simp only [SettlementQueue.append, e, a]
  rfl

/-- R146: settling appends the record, uses the place reserved, unbinds the bank, closes the window and clears the live
record; VACANT, or OUT_OF_SERVICE while the emergency stop is asserted, is entered. -/
theorem State.settle_spec (r : SessionRecord) (h : (s.outlet x).sc.session = some r) :
    (s.settle x).sq = { queue := s.sq.queue ++ [s.settlementOf r], reserved := s.sq.reserved - 1 } ∧
    (s.settle x).ts = s.ts.unbind r.bank ∧
    ((s.settle x).outlet x).sc = SessionOutlet.afterReset (if s.estop = true then .outOfService else .vacant) := by
  have e := s.sq.append_complete (s := s) r
  have sq : ∀ st, ((s.settleRecord x).enter x st).sq = (s.settleRecord x).sq := fun st => by
    unfold State.enter; split <;> simp
  have ts : ∀ st, ((s.settleRecord x).enter x st).ts = (s.settleRecord x).ts := fun st => by
    unfold State.enter; split <;> simp
  refine ⟨?_, ?_, ?_⟩
  · rw [State.settle, sq]; simp [State.settleRecord, h, e]
  · rw [State.settle, ts]; simp [State.settleRecord, h]
  · rw [State.settle, (State.enter_spec _ _ _).1]
    simp only [State.settleRecord, h]
    cases x <;> rfl

/-! ## Contactor commands (R96, R97) -/

/-- R96: a close from OPEN starts; behind an open under way it is held pending; in the other states nothing happens. -/
theorem State.commandClose_spec :
    ((s.outlet x).sp.contactor = .isOpen → ((s.commandClose x).outlet x).sp =
      { (s.outlet x).sp with contactor := .closeWait, driveClosed := true, contactorTimer := true }) ∧
    ((s.outlet x).sp.contactor = .openWait → ((s.commandClose x).outlet x).sp =
      { (s.outlet x).sp with pendingClose := true }) ∧
    ((s.outlet x).sp.contactor ≠ .isOpen → (s.outlet x).sp.contactor ≠ .openWait → s.commandClose x = s) := by
  refine ⟨fun h => ?_, fun h => ?_, fun h g => ?_⟩ <;> simp only [State.commandClose]
  · simp [h]
  · simp [h]
  · cases e : (s.outlet x).sp.contactor <;> simp_all

/-! ## Energy (R142) -/

/-- R142: the lines cost what they cost before, and the delivery's Wh at its price. -/
theorem addToLine_cost (band wh price : Nat) (ls : List BandLine) :
    ((addToLine band wh price ls).map BandLine.cost).sum = (ls.map BandLine.cost).sum + wh * price := by
  induction ls with
  | nil => simp [addToLine]
  | cons l rest ih =>
    simp only [addToLine]
    split
    · simp; omega
    · split
      · simp; omega
      · simp [ih]; omega

/-- R142: the lines bill what they billed before, and the delivery's Wh. -/
theorem addToLine_wh (band wh price : Nat) (ls : List BandLine) :
    ((addToLine band wh price ls).map BandLine.wh).sum = (ls.map BandLine.wh).sum + wh := by
  induction ls with
  | nil => simp [addToLine]
  | cons l rest ih =>
    simp only [addToLine]
    split
    · simp; omega
    · split
      · simp; omega
      · simp [ih]; omega

/-! ## The cells of the park line (R2, R3) -/

/-- R2: a byte takes ten cells. -/
theorem byteCells_length (b : Byte) : (byteCells b).length = 10 := rfl

/-- R2: the bytes of a frame follow each other without a gap. -/
theorem frameCells_length (bytes : List Byte) : (frameCells bytes).length = 10 * bytes.length := by
  induction bytes with
  | nil => rfl
  | cons b rest ih =>
    have e : frameCells (b :: rest) = byteCells b ++ frameCells rest := rfl
    rw [e, List.length_append, ih, byteCells_length, List.length_cons]; omega

/-- A cell of the level lengthens the run, and a cell of the other level ends it (R3). -/
theorem runOf_append (c d : Cell) (cells : List Cell) :
    runOf c (cells ++ [d]) = if d = c then runOf c cells + 1 else 0 := by
  simp only [runOf, List.reverse_append, List.reverse_cons, List.reverse_nil, List.nil_append, List.singleton_append,
    List.takeWhile_cons]
  by_cases h : d = c <;> simp [h]

/-- R2: the cells of a byte end with the recessive tail. -/
theorem byteCells_eq (b : Byte) : byteCells b = (byteCells b).dropLast ++ [.recessive] := rfl

/-- R2: the last cell of a frame's bytes is a recessive tail, so no dominant run ends there. -/
theorem runOf_dominant_frameCells (bytes : List Byte) : runOf .dominant (frameCells bytes) = 0 := by
  rcases List.eq_nil_or_concat bytes with rfl | ⟨front, b, rfl⟩
  · rfl
  · have e : frameCells (front ++ [b]) = frameCells front ++ byteCells b := by simp [frameCells]
    rw [List.concat_eq_append, e, byteCells_eq, ← List.append_assoc, runOf_append]; rfl

/-- R7 and R3: a driven ack cell leaves a dominant run of 1 and no recessive run. -/
theorem runOf_acked (bytes : List Byte) :
    runOf .dominant (frameCells bytes ++ [.dominant]) = 1 ∧ runOf .recessive (frameCells bytes ++ [.dominant]) = 0 := by
  rw [runOf_append, runOf_append, runOf_dominant_frameCells]; exact ⟨rfl, rfl⟩

/-! ## Transmit slots (R9) -/

/-- R9: a frame placed stands in its slot and no other slot changes, unless the station is BARRED. -/
theorem State.placeFrame_slot (k j : FrameKind) (bytes : List Byte) :
    (s.placeFrame k bytes).li.slot j =
      if s.se.state = .barred then s.li.slot j else if j = k then some bytes else s.li.slot j := by
  by_cases h : s.se.state = .barred
  · simp [State.placeFrame, h]
  · cases k <;> cases j <;> simp [State.placeFrame, h, LineInterface.slot, LineInterface.setSlot]

/-! ## The link during a restart (R181, R192) -/

/-- What falls due is discarded with LINK_OVERRUN, or waits in the command buffer. -/
theorem State.letWait_spec (due : CommandBuffer) :
    (s.linkBlocked = true → s.letWait due = s.raise .linkOverrun) ∧
    (s.linkBlocked = false → s.letWait due = { s with pk := { s.pk with command := due } }) :=
  ⟨fun h => by simp [State.letWait, h], fun h => by simp [State.letWait, h]⟩

/-- An input of the link during a restart reaches the pedestal link alone, and neither its response nor HOLD. -/
theorem State.hearInRestart_spec (i : LinkInput) :
    s.hearInRestart i = { s with pk := (s.hearInRestart i).pk } ∧ (s.hearInRestart i).pk.response = s.pk.response ∧
    (s.hearInRestart i).pk.hold = s.pk.hold ∧ (s.hearInRestart i).pk.mask = s.pk.mask := by
  unfold State.hearInRestart
  split
  · simp only []
    split
    · exact ⟨rfl, rfl, rfl, rfl⟩
    · unfold State.letWait; split <;> exact ⟨rfl, rfl, rfl, rfl⟩
    · unfold State.letWait; split <;> exact ⟨rfl, rfl, rfl, rfl⟩
  · exact ⟨rfl, rfl, rfl, rfl⟩
  · exact ⟨rfl, rfl, rfl, rfl⟩

/-- So do all of them together, and none is left. -/
theorem State.hearAllInRestart_spec :
    s.hearAllInRestart = { s with pk := s.hearAllInRestart.pk } ∧ s.hearAllInRestart.pk.response = s.pk.response ∧
    s.hearAllInRestart.pk.hold = s.pk.hold ∧ s.hearAllInRestart.pk.mask = s.pk.mask ∧ s.hearAllInRestart.pk.restartInput = [] := by
  have h : ∀ (l : List LinkInput) (t : State), l.foldl State.hearInRestart t = { t with pk := (l.foldl State.hearInRestart t).pk } ∧
      (l.foldl State.hearInRestart t).pk.response = t.pk.response ∧ (l.foldl State.hearInRestart t).pk.hold = t.pk.hold ∧
      (l.foldl State.hearInRestart t).pk.mask = t.pk.mask := by
    intro l
    induction l with
    | nil => exact fun t => ⟨rfl, rfl, rfl, rfl⟩
    | cons i l ih =>
      intro t
      obtain ⟨a, b, c, d⟩ := ih (t.hearInRestart i)
      obtain ⟨e, f, g, h⟩ := t.hearInRestart_spec i
      refine ⟨?_, b.trans f, c.trans g, d.trans h⟩
      rw [List.foldl_cons, a, e]
  obtain ⟨a, b, c, d⟩ := h s.pk.restartInput s
  refine ⟨?_, b, c, d, rfl⟩
  unfold State.hearAllInRestart
  rw [a]

end Sys2Proof.Machine
end

