-- ==== Sys2Proof/WellFormed.lean ====
section
/-! DEFINITION. Which commands are well formed: operands of the form that the row's event can carry. The meanings are total
and do not rest on these checks. -/

namespace Sys2Proof

/-- The data of a command frame: 0 to 95 bytes (R179). -/
def dataFits (data : List Byte) : Bool := decide (data.length ≤ 95)

/-- The bytes of a received frame as LI assembles them (R6): with a length byte of 0 to 16, header, length, payload and two
check bytes; with a length above 16, the header and that length byte, where LI stops. -/
def frameShape (bytes : List Byte) : Bool :=
  match bytes with
  | _ :: length :: rest =>
    if length.toNat ≤ Config.maxPayload then decide (rest.length = length.toNat + 2) else decide (rest = [])
  | _ => false

/-- A cell of an own frame, counted from 0 at the header's lead cell, that is a lead or a data cell: the longest own frame, an
ANNOUNCE, has 15 bytes of ten cells, and the tenth is the tail (R2, R4). -/
def ownCell (cell : Nat) : Bool := decide (cell < 150 ∧ cell % 10 ≠ 9)

/-- A command is well formed. -/
def Instr.wellFormed (i : Instr) : Bool :=
  match i with
  | .frameEvaluation bytes => frameShape bytes
  | .linkBadLength length => decide (length.toNat = 0 ∨ Config.maxLength < length.toNat)
  | .unknownCommand code data => (Machine.LinkCommand.ofCode code).isNone && dataFits data
  | .configure data => dataFits data
  | .identify data => dataFits data
  | .setClock data => dataFits data
  | .restart data => dataFits data
  | .loadTariff data => dataFits data
  | .openSession data => dataFits data
  | .demand data => dataFits data
  | .stopSession data => dataFits data
  | .readSession data => dataFits data
  | .setCurtail data => dataFits data
  | .siteHalt data => dataFits data
  | .readView data => dataFits data
  | .readSettlement data => dataFits data
  | .releaseSettlement data => dataFits data
  | .readStatus data => dataFits data
  | .clearCauses data => dataFits data
  | .setMask data => dataFits data
  | .hardReset _ _ => true
  | .clockTick => true
  | .round => true
  | .transmitStart => true
  | .transmitComplete _ => true
  | .arbitrationLost _ => true
  | .numberClash cell => cell.all fun n => decide (10 ≤ n) && ownCell n && decide (n % 10 ≠ 0)
  | .txFault cell => ownCell cell
  | .framingError _ => true
  | .lineStuck => true
  | .lineIdle => true
  | .holdTimerExpiry => true
  | .siteTripAsserted => true
  | .siteTripReleased => true
  | .stageMessageDiscarded _ => true
  | .sample _ _ _ _ _ => true
  | .settled _ _ => true
  | .orderTimerExpiry _ => true
  | .feedbackClosed _ => true
  | .feedbackOpen _ => true
  | .contactorTimerExpiry _ => true
  | .plugInserted _ => true
  | .plugRemoved _ => true
  | .emergencyStopAsserted => true
  | .emergencyStopReleased => true
  | .meterPulse _ => true
  | .stageLost _ => true
  | .noVehicle _ => true
  | .idleMinute _ => true
  | .commandFrameComplete _ => true
  | .linkStopBitError => true
  | .linkGapTimeout => true
  | .responseSent => true
  | .holdReleased => true
  | .holdAsserted => true
  | .peerLeadCell _ => true
  | .linkByteReceived _ => true
  | .pulseInputReleased _ => true

end Sys2Proof
end

