-- ==== Sys2Proof/Laws/PerInstr.lean ====
section
/-! SUPPORT. The statement made of every command one by one: a well-formed command of the link carries at most 95 data bytes
(R179), so the length byte of its frame is 96 at most. -/

namespace Sys2Proof.Laws

/-- R179: the data of a well-formed command frame are 0 to 95 bytes. -/
def CommandFrameFits.Statement (i : Instr) : Prop :=
  i.wellFormed = true → ∀ f ∈ i.commandFrame, f.2.length ≤ 95

theorem CommandFrameFits.hardReset (pins : StrapPins) (levels : InputLevels) : CommandFrameFits.Statement (.hardReset pins levels) := by intro _ f h; cases h
theorem CommandFrameFits.clockTick : CommandFrameFits.Statement .clockTick := by intro _ f h; cases h
theorem CommandFrameFits.round : CommandFrameFits.Statement .round := by intro _ f h; cases h
theorem CommandFrameFits.transmitStart : CommandFrameFits.Statement .transmitStart := by intro _ f h; cases h
theorem CommandFrameFits.transmitComplete (ackDominant : Bool) : CommandFrameFits.Statement (.transmitComplete ackDominant) := by intro _ f h; cases h
theorem CommandFrameFits.arbitrationLost (cell : Fin 8) : CommandFrameFits.Statement (.arbitrationLost cell) := by intro _ f h; cases h
theorem CommandFrameFits.numberClash (cell : Option Nat) : CommandFrameFits.Statement (.numberClash cell) := by intro _ f h; cases h
theorem CommandFrameFits.txFault (cell : Nat) : CommandFrameFits.Statement (.txFault cell) := by intro _ f h; cases h
theorem CommandFrameFits.framingError (byte : Byte) : CommandFrameFits.Statement (.framingError byte) := by intro _ f h; cases h
theorem CommandFrameFits.lineStuck : CommandFrameFits.Statement .lineStuck := by intro _ f h; cases h
theorem CommandFrameFits.lineIdle : CommandFrameFits.Statement .lineIdle := by intro _ f h; cases h
theorem CommandFrameFits.frameEvaluation (bytes : List Byte) : CommandFrameFits.Statement (.frameEvaluation bytes) := by intro _ f h; cases h
theorem CommandFrameFits.holdTimerExpiry : CommandFrameFits.Statement .holdTimerExpiry := by intro _ f h; cases h
theorem CommandFrameFits.siteTripAsserted : CommandFrameFits.Statement .siteTripAsserted := by intro _ f h; cases h
theorem CommandFrameFits.siteTripReleased : CommandFrameFits.Statement .siteTripReleased := by intro _ f h; cases h
theorem CommandFrameFits.stageMessageDiscarded (why : DiscardReason) : CommandFrameFits.Statement (.stageMessageDiscarded why) := by intro _ f h; cases h
theorem CommandFrameFits.sample (x : Outlet) (voltage current : BitVec 16) (voltageSaturated currentSaturated : Bool) : CommandFrameFits.Statement (.sample x voltage current voltageSaturated currentSaturated) := by intro _ f h; cases h
theorem CommandFrameFits.settled (x : Outlet) (value : BitVec 16) : CommandFrameFits.Statement (.settled x value) := by intro _ f h; cases h
theorem CommandFrameFits.orderTimerExpiry (x : Outlet) : CommandFrameFits.Statement (.orderTimerExpiry x) := by intro _ f h; cases h
theorem CommandFrameFits.feedbackClosed (x : Outlet) : CommandFrameFits.Statement (.feedbackClosed x) := by intro _ f h; cases h
theorem CommandFrameFits.feedbackOpen (x : Outlet) : CommandFrameFits.Statement (.feedbackOpen x) := by intro _ f h; cases h
theorem CommandFrameFits.contactorTimerExpiry (x : Outlet) : CommandFrameFits.Statement (.contactorTimerExpiry x) := by intro _ f h; cases h
theorem CommandFrameFits.plugInserted (x : Outlet) : CommandFrameFits.Statement (.plugInserted x) := by intro _ f h; cases h
theorem CommandFrameFits.plugRemoved (x : Outlet) : CommandFrameFits.Statement (.plugRemoved x) := by intro _ f h; cases h
theorem CommandFrameFits.emergencyStopAsserted : CommandFrameFits.Statement .emergencyStopAsserted := by intro _ f h; cases h
theorem CommandFrameFits.emergencyStopReleased : CommandFrameFits.Statement .emergencyStopReleased := by intro _ f h; cases h
theorem CommandFrameFits.meterPulse (x : Outlet) : CommandFrameFits.Statement (.meterPulse x) := by intro _ f h; cases h
theorem CommandFrameFits.stageLost (x : Outlet) : CommandFrameFits.Statement (.stageLost x) := by intro _ f h; cases h
theorem CommandFrameFits.noVehicle (x : Outlet) : CommandFrameFits.Statement (.noVehicle x) := by intro _ f h; cases h
theorem CommandFrameFits.idleMinute (x : Outlet) : CommandFrameFits.Statement (.idleMinute x) := by intro _ f h; cases h
theorem CommandFrameFits.commandFrameComplete (last : Byte) : CommandFrameFits.Statement (.commandFrameComplete last) := by intro _ f h; cases h
theorem CommandFrameFits.linkBadLength (length : Byte) : CommandFrameFits.Statement (.linkBadLength length) := by intro _ f h; cases h
theorem CommandFrameFits.linkStopBitError : CommandFrameFits.Statement .linkStopBitError := by intro _ f h; cases h
theorem CommandFrameFits.linkGapTimeout : CommandFrameFits.Statement .linkGapTimeout := by intro _ f h; cases h
theorem CommandFrameFits.responseSent : CommandFrameFits.Statement .responseSent := by intro _ f h; cases h
theorem CommandFrameFits.holdReleased : CommandFrameFits.Statement .holdReleased := by intro _ f h; cases h
theorem CommandFrameFits.holdAsserted : CommandFrameFits.Statement .holdAsserted := by intro _ f h; cases h
theorem CommandFrameFits.unknownCommand (code : Byte) (data : List Byte) : CommandFrameFits.Statement (.unknownCommand code data) := by
  intro h f e; cases e; simp [Instr.wellFormed, dataFits] at h; exact h.2
theorem CommandFrameFits.configure (data : List Byte) : CommandFrameFits.Statement (.configure data) := by
  intro h f e; cases e; simpa [Instr.wellFormed, dataFits] using h
theorem CommandFrameFits.identify (data : List Byte) : CommandFrameFits.Statement (.identify data) := by
  intro h f e; cases e; simpa [Instr.wellFormed, dataFits] using h
theorem CommandFrameFits.setClock (data : List Byte) : CommandFrameFits.Statement (.setClock data) := by
  intro h f e; cases e; simpa [Instr.wellFormed, dataFits] using h
theorem CommandFrameFits.restart (data : List Byte) : CommandFrameFits.Statement (.restart data) := by
  intro h f e; cases e; simpa [Instr.wellFormed, dataFits] using h
theorem CommandFrameFits.loadTariff (data : List Byte) : CommandFrameFits.Statement (.loadTariff data) := by
  intro h f e; cases e; simpa [Instr.wellFormed, dataFits] using h
theorem CommandFrameFits.openSession (data : List Byte) : CommandFrameFits.Statement (.openSession data) := by
  intro h f e; cases e; simpa [Instr.wellFormed, dataFits] using h
theorem CommandFrameFits.demand (data : List Byte) : CommandFrameFits.Statement (.demand data) := by
  intro h f e; cases e; simpa [Instr.wellFormed, dataFits] using h
theorem CommandFrameFits.stopSession (data : List Byte) : CommandFrameFits.Statement (.stopSession data) := by
  intro h f e; cases e; simpa [Instr.wellFormed, dataFits] using h
theorem CommandFrameFits.readSession (data : List Byte) : CommandFrameFits.Statement (.readSession data) := by
  intro h f e; cases e; simpa [Instr.wellFormed, dataFits] using h
theorem CommandFrameFits.setCurtail (data : List Byte) : CommandFrameFits.Statement (.setCurtail data) := by
  intro h f e; cases e; simpa [Instr.wellFormed, dataFits] using h
theorem CommandFrameFits.siteHalt (data : List Byte) : CommandFrameFits.Statement (.siteHalt data) := by
  intro h f e; cases e; simpa [Instr.wellFormed, dataFits] using h
theorem CommandFrameFits.readView (data : List Byte) : CommandFrameFits.Statement (.readView data) := by
  intro h f e; cases e; simpa [Instr.wellFormed, dataFits] using h
theorem CommandFrameFits.readSettlement (data : List Byte) : CommandFrameFits.Statement (.readSettlement data) := by
  intro h f e; cases e; simpa [Instr.wellFormed, dataFits] using h
theorem CommandFrameFits.releaseSettlement (data : List Byte) : CommandFrameFits.Statement (.releaseSettlement data) := by
  intro h f e; cases e; simpa [Instr.wellFormed, dataFits] using h
theorem CommandFrameFits.readStatus (data : List Byte) : CommandFrameFits.Statement (.readStatus data) := by
  intro h f e; cases e; simpa [Instr.wellFormed, dataFits] using h
theorem CommandFrameFits.clearCauses (data : List Byte) : CommandFrameFits.Statement (.clearCauses data) := by
  intro h f e; cases e; simpa [Instr.wellFormed, dataFits] using h
theorem CommandFrameFits.setMask (data : List Byte) : CommandFrameFits.Statement (.setMask data) := by
  intro h f e; cases e; simpa [Instr.wellFormed, dataFits] using h
theorem CommandFrameFits.peerLeadCell (edge : Bool) : CommandFrameFits.Statement (.peerLeadCell edge) := by intro _ f h; cases h
theorem CommandFrameFits.linkByteReceived (byte : Byte) : CommandFrameFits.Statement (.linkByteReceived byte) := by intro _ f h; cases h
theorem CommandFrameFits.pulseInputReleased (x : Outlet) : CommandFrameFits.Statement (.pulseInputReleased x) := by intro _ f h; cases h

end Sys2Proof.Laws
end

