-- ==== Sys2Proof/Tests/Slice0.lean ====
section
/-! SUPPORT. Tests of one step each, whose expected results are the manual's worked examples and tables, or worked by hand from a
rule; the smoke tests of the well-formedness checks; and for each statement with hypotheses a theorem that shows states and
operands that meet them. -/

namespace Sys2Proof.Tests

open Machine

set_option maxRecDepth 8000

/-! ## Small states -/

/-- The state after a command. -/
def after (c : Instr) (s : State) : State :=
  match exec c s with
  | .next t => t
  | .fault _ => s
  | .refused _ => s

/-- The response in the part: its status and its data. -/
def answer (s : State) : Option (Byte × List Byte) :=
  match s.pk.response with
  | .empty => none
  | .held r => some (r.status, r.data)
  | .sending r => some (r.status, r.data)

/-- Section 3.11's configuration, with B rated 3,000, T of 100, 10 Wh a pulse and a site trip of 30 s (section 2.9). -/
def park : Configuration :=
  { budget := 16000, margin := 400, fallback := 300, population := 8, ramp := 500, rated := 4000, ratingA := 4000, ratingB := 3000,
    tolerance := 100, pulseWeight := 10, tripSeconds := 30 }

/-- The tariff of section 8.10. -/
def tariff41 : Tariff :=
  { id := 41, fee := 500000, bands := [{ start := 0, price := 450 }, { start := 420, price := 590 }], idleGrace := 10
    idlePrice := 400000, idleMax := 60 }

/-- The record of section 7.14's session as it opens, without a cap. -/
def opened : SessionRecord :=
  { id := 207, outlet := .a, auth := [1, 2, 3, 4, 5, 6, 7, 8], bank := .bank0, tariffId := 41, startDay := 812, startSecond := 24000
    endTime := none, endReason := none, lines := [], billedWh := 0, energyCap := 0, costCap := 0, idleMinutes := 0
    billedIdle := 0, idleFee := 0, fee := 500000, flags := SessionFlags.clear }

/-- The record, ended with a reason. -/
def ended (reason : Nat) : SessionRecord := { opened with endReason := some reason }

/-- An OPEN contactor with the plug in. -/
def openPort : StageOutlet := { StageOutlet.absent with plugPresent := true }

/-- A contactor told to close. -/
def closingPort : StageOutlet := { openPort with contactor := .closeWait, driveClosed := true, contactorTimer := true }

/-- A CLOSED contactor. -/
def closedPort : StageOutlet := { openPort with contactor := .closed, driveClosed := true, feedbackClosed := true }

/-- A contactor told to open. -/
def openingPort : StageOutlet := { openPort with contactor := .openWait, contactorTimer := true, feedbackClosed := true }

/-- An outlet in a state, with its contactor and, where it holds a session, the session's record. -/
def outletIn (st : OutletState) (port : StageOutlet) (session : Option SessionRecord) : OutletRecord :=
  { sp := port
    mu := { MeterOutlet.afterReset with windowOpen := session.isSome, silenceTimer := decide (st = .energising) }
    sc := { SessionOutlet.afterReset st with
      session := session, awaitTimer := decide (st = .awaitPlug), idleTimer := decide (st = .idle)
      openCheck := decide (st = .outOfService) && session.isSome } }

def vacant : OutletRecord := outletIn .vacant openPort none
def awaiting : OutletRecord := outletIn .awaitPlug { openPort with plugPresent := false } (some opened)
def connecting : OutletRecord := outletIn .connecting closingPort (some opened)
def reclosing : OutletRecord := outletIn .connecting { openingPort with pendingClose := true } (some opened)
def energising : OutletRecord := outletIn .energising closedPort (some opened)
def suspended : OutletRecord := outletIn .suspended openPort (some opened)
def opening : OutletRecord := outletIn .suspended openingPort (some opened)
def ramping (port : StageOutlet) : OutletRecord :=
  outletIn .closing { port with isConfirmed := false, confirmed := 2000, orderTimer := .running } (some (ended 131))
def waiting : OutletRecord :=
  { outletIn .closing openingPort (some (ended 131)) with
    sc := { (outletIn .closing openingPort (some (ended 131))).sc with step := .openStep } }
def idling : OutletRecord := outletIn .idle openPort (some (ended 131))
def checking : OutletRecord := outletIn .outOfService openingPort (some (ended 138))
def welded : OutletRecord := outletIn .outOfService { openPort with contactor := .welded, feedbackClosed := true } none

/-- Station #3 of section 3.11, SHARING on an IDLE line, with the tariff of section 8.10 in bank 0, outlet A as given and outlet B
VACANT, at 06:40:00 of day 812 (section 7.14). -/
def station (a : OutletRecord) : State :=
  { State.reset with
    cf := { straps := { station := 3, rate := .middle, source := .sample, twoOutlets := true }, config := some park
            day := 812, second := 24000, clockSet := true }
    li := { State.reset.li with condition := .idle, recessive := 11 }
    se := { State.reset.se with state := .sharing, timer := 1, roundPhaseMs := 271 }
    outA := a
    outB := vacant
    nextId := 208
    ts := { bank0 := { tariff := some tariff41, bound := a.sc.session.toList.length }, bank1 := { tariff := none, bound := 0 }
            active := some .bank0 }
    sq := { queue := [], reserved := a.sc.session.toList.length } }

/-! ## Reset, the clock and the configuration -/

/-- Section 11.6: station 5, middle rate, SAMPLE, two outlets; the first round at 285 ms. -/
def pins5 : StrapPins := { station := 5, rate := 1, source := false, outlets := true }

/-- Every input line at rest. -/
def quietLevels : InputLevels :=
  { plugA := false, plugB := false, feedbackA := false, feedbackB := false, emergencyStop := false, pulseA := false, pulseB := false
    siteTrip := false, hold := false }

theorem test_hardReset_phase : (after (.hardReset pins5 quietLevels) State.reset).se.roundPhaseMs = 285 := by decide

/-- R106: an outlet whose feedback reads closed at hard reset is WELDED and OUT_OF_SERVICE. -/
theorem test_hardReset_weld : (after (.hardReset pins5 { quietLevels with feedbackB := true }) State.reset).outB.sc.state = .outOfService ∧
    (after (.hardReset pins5 { quietLevels with feedbackB := true }) State.reset).outB.sp.contactor = .welded := by decide

/-- Section 11.6: the IDENTIFY response of station 5. -/
theorem test_identify : answer (after (.identify []) (after (.hardReset pins5 quietLevels) State.reset)) =
    some (0x00, [0x04, 0x18, 0x01, 0x05, 0x09]) := by decide

/-- R197: from the last second of day 65,535. -/
theorem test_clockTick_wraps :
    let t := after .clockTick { State.reset with cf := { State.reset.cf with day := 65535, second := 86399 } }
    t.cf.day = 0 ∧ t.cf.second = 0 := by decide

/-- Section 11.6: SET_CLOCK day 812, second 25,200. -/
theorem test_setClock : let t := after (.setClock [0x03, 0x2C, 0x00, 0x62, 0x70]) State.reset
    t.cf.day = 812 ∧ t.cf.second = 25200 ∧ t.cf.clockSet = true := by decide

/-- Section 3.11's configuration in the layout of R194. -/
def parkData : List Byte :=
  [0x3E, 0x80, 0x01, 0x90, 0x01, 0x2C, 8, 0x01, 0xF4, 0x0F, 0xA0, 0x0F, 0xA0, 0x0B, 0xB8, 0x00, 0x64, 10, 30]

theorem test_configure : (after (.configure parkData) State.reset).cf.config = some park ∧
    (after (.configure parkData) State.reset).se.state = .joining := by decide

/-- R194: M + F × N = 400 + 300 × 8 = 2,800 is above a B of 2,799. -/
theorem test_configure_budget :
    answer (after (.configure (0x0A :: 0xEF :: parkData.drop 2)) State.reset) = some (0x02, []) := by decide

/-- R200: a session open at the RESTART is settled with the end reason 140. -/
theorem test_restart : let t := after (.restart []) (station energising)
    t.sq.queue.map (fun e => e.record.endReason) = [some 140] ∧ t.se.state = .joining := by decide

/-! ## The park line and the peer view -/

/-- The check value that this CRC's catalogue entry gives for the digits 1 to 9. -/
theorem test_crc : crc16 [0x31, 0x32, 0x33, 0x34, 0x35, 0x36, 0x37, 0x38, 0x39] = 0x29B1#16 := by decide

/-- Section 1.9: the headers of #6's CURTAIL and ANNOUNCE are 0x26 and 0x46, #4's ANNOUNCE is 15 bytes from 0x44 on. -/
theorem test_parkFrame : (parkFrame .announce 4 (List.replicate 11 0)).take 2 = [0x44, 0x0B] ∧
    (parkFrame .announce 4 (List.replicate 11 0)).length = 15 ∧ (parkFrame .curtail 6 [50]).head? = some 0x26 ∧
    (parkFrame .announce 6 []).head? = some 0x46 := by decide

/-- R10: HALT goes before ANNOUNCE. -/
theorem test_transmitStart :
    let s := { station vacant with li := { (station vacant).li with haltSlot := some [1], announceSlot := some [2] } }
    (after .transmitStart s).li.activity = .sending .halt [1] false := by decide

/-- Station #3, assembling a frame. -/
def listening (a : OutletRecord) : State :=
  { station a with li := { (station a).li with condition := .busy, activity := .receiving } }

/-- Station #3, sending an ANNOUNCE that its slot still holds. -/
def talking : State :=
  { station vacant with
    li := { (station vacant).li with condition := .busy, activity := .sending .announce [2] false, announceSlot := some [2] } }

/-- R12: an acknowledged frame empties its slot. -/
theorem test_transmitComplete : (after (.transmitComplete true) talking).li.announceSlot = none ∧
    (after (.transmitComplete false) talking).li.announceSlot = some [2] := by decide

/-- The header 0x46 of #6's ANNOUNCE (section 1.9) in ten cells: lead, 0 1 0 0 0 1 1 0 with 0 dominant, tail (R2). -/
theorem test_byteCells : byteCells 0x46 = [.dominant, .dominant, .recessive, .dominant, .dominant, .dominant, .recessive, .recessive,
    .dominant, .recessive] := by decide

/-- Section 1.9, the first of the two stations #4: its ANNOUNCE with demand 3,000 (0x0BB8) is on the line. -/
def calling : State :=
  { station vacant with
    li := { (station vacant).li with
      condition := .busy, activity := .sending .announce [0x44, 11, 0, 1, 0x0B, 0xB8, 0, 0, 0, 0, 0, 0, 0, 0, 0] false } }

/-- R11: #4 loses its header 0x44 to a CURTAIL in the second data cell; lead, first data cell and that cell are a dominant run of 3. -/
theorem test_arbitrationLost : (after (.arbitrationLost 1) calling).li.activity = .receiving ∧
    (after (.arbitrationLost 1) calling).li.dominant = 3 ∧ after (.arbitrationLost 0) calling = calling := by decide

/-- R17 and R18; a fault in the lead cell of the second byte follows the tail of 0x44 and its last bits 0. -/
theorem test_txFault : let t := after (.txFault 10) calling
    t.li.lastFault = .txFault ∧ t.isPending .line = true ∧ t.li.recessive = 2 ∧ after (.txFault 9) calling = calling := by decide

/-- R75: a clash found by hearing in the middle of a session ends it with 139. -/
theorem test_numberClash : let t := after (.numberClash none) (station energising)
    t.se.state = .barred ∧ t.outA.sc.session.bind SessionRecord.endReason = some 139 := by decide

/-- Section 1.9: the first station #4 finds the clash in the fifth data cell of 0x0B (cell 45); the lead, four bits 0 and that cell
are dominant. In the lead cell of that byte, in its tail and in the header it finds none (R11, R14). -/
theorem test_numberClash_cell : (after (.numberClash (some 45)) calling).se.state = .barred ∧
    (after (.numberClash (some 45)) calling).li.dominant = 6 ∧
    ∀ n ∈ [40, 49, 2], after (.numberClash (some n)) calling = calling := by decide

/-- R14: the run is 10 cells after an all-zero byte and 1 after a last bit 1. -/
theorem test_framingError : (after (.framingError 0) (listening vacant)).li.activity = .quiet ∧
    (after (.framingError 0) (listening vacant)).li.dominant = 10 ∧ (after (.framingError 1) calling).li.dominant = 1 := by decide

/-- R14 and R15: the run of 10 goes on, and its sixteenth cell makes the line STUCK and raises LINE. -/
theorem test_framingError_stuck :
    let t := (List.replicate 6 (Instr.peerLeadCell false)).foldl (fun s c => after c s) (after (.framingError 0) (listening vacant))
    t.li.condition = .stuck ∧ t.li.dominant = 16 ∧ t.isPending .line = true := by decide

/-- R15: LINE is raised at the entry to STUCK. -/
theorem test_lineStuck : (after .lineStuck talking).li.condition = .stuck ∧ (after .lineStuck talking).isPending .line = true := by decide

theorem test_lineIdle : (after .lineIdle talking).li.condition = .idle := by decide

theorem test_peerLeadCell : (after (.peerLeadCell true) (station vacant)).li.activity = .receiving ∧
    (after (.peerLeadCell true) (after .lineStuck talking)).li.condition = .stuck := by decide

/-- Section 2.9: a HALT of 10 s from #2 with reason 2 suspends an energising outlet. -/
theorem test_frameEvaluation_halt :
    let t := after (.frameEvaluation (parkFrame .halt 2 [10, 2])) (listening energising)
    t.pv.hold = 10 ∧ t.pv.haltRecord = some { source := 2, reason := 2 } ∧ t.outA.sc.state = .suspended := by decide

/-- Section 3.11: #1's ANNOUNCE, with weight 1, demand 3,500, ceiling 3,000, claim 3,400 and draw 2,950. -/
theorem test_frameEvaluation_announce :
    (after (.frameEvaluation (parkFrame .announce 1 [0, 1, 0x0D, 0xAC, 0x0B, 0xB8, 0x0D, 0x48, 0x0B, 0x86, 1])) (listening vacant)).pv.peers =
      [{ station := 1, joining := false, halted := false, weight := 1, demand := 3500, ceiling := 3000, claim := 3400, draw := 2950
         parity := true, age := 0 }] := by decide

/-- R33: the last expiry ends the halt, and R135 takes the outlet to CONNECTING. -/
theorem test_holdTimerExpiry :
    let s := { station suspended with pv := { (station suspended).pv with hold := 1, holdTimer := true } }
    (after .holdTimerExpiry s).pv.isHalted = false ∧ (after .holdTimerExpiry s).outA.sc.state = .connecting := by decide

/-- Section 2.9: with 3 s left of a halt, the site trip of 30 s holds the station 30 s, as source 3 and reason 1. -/
theorem test_siteTripAsserted :
    let s := { station suspended with pv := { (station suspended).pv with hold := 3, holdTimer := true } }
    (after .siteTripAsserted s).pv.hold = 30 ∧
    (after .siteTripAsserted s).pv.haltRecord = some { source := 3, reason := 1 } := by decide

theorem test_siteTripReleased :
    (after .siteTripReleased { station vacant with se := { (station vacant).se with tripInput := true, tripRepeat := 3 } }).se.tripRepeat = 0
    := by decide

/-! ## The share arithmetic -/

/-- Section 3.13: E = 1,601 with a QUIET peer of reservation 600 gives the own station 250, R = 2,000 gives it 400. -/
def rounding : List Member := [{ station := 4, q := 400, w := 1 }, { station := 7, q := 700, w := 1 }, { station := 2, q := 800, w := 2 }]

theorem test_waterFill_rounding : waterFill 1001 4 (sortMembers rounding) = [(2, 500), (4, 250), (7, 250)] ∧
    waterFill 2000 4 (sortMembers rounding) = [(2, 800), (4, 400), (7, 700)] := by decide

/-- The splits of section 3.15. -/
theorem test_split : splitCeiling 4000 2000 1500 = (2000, 1500) ∧ splitCeiling 2300 2000 1500 = (1150, 1150) ∧
    splitCeiling 2300 600 2500 = (600, 1700) ∧ splitCeiling 2301 2000 2000 = (1150, 1151) ∧
    splitCeiling 0 2000 1500 = (0, 0) := by decide

/-- One peer of section 3.11, as it stands before the round's ageing. -/
def peer (number weight demand ceiling claim draw age : Nat) : PeerEntry :=
  { station := number, joining := false, halted := false, weight := weight, demand := demand, ceiling := ceiling, claim := claim
    draw := draw, parity := false, age := age }

/-- Station #3 of section 3.11, before its round, with peers and outlet A as there. -/
def climbing : State :=
  let o := { energising with
    sc := { energising.sc with requested := 4000 }
    sp := { energising.sp with ordered := 2000, confirmed := 2000 } }
  { station o with
    pv := { (station o).pv with peers := [peer 1 1 3500 3000 3400 2950 0, peer 2 2 6000 5000 5000 4900 0, peer 5 0 0 0 0 0 0,
                                          peer 6 0 0 1500 1500 1400 5] }
    se := { (station o).se with
      timer := 20, frameBuilt := true, frameClaim := 2500, ackReported := true, ceiling := 2000, claim := 2500 } }

/-- Section 3.11: E = 14,700, S = 3,700, H = 2,800, C = 2,500, K = 3,000, an order of 2,500 to outlet A and none to outlet B. -/
theorem test_round_arithmetic : let t := after .round climbing
    t.se.figures = { budget := some 14700, share := some 3700, headroom := some 2800 } ∧ t.se.ceiling = 2500 ∧ t.se.claim = 3000 ∧
    t.stageTx = climbing.stageTx ++ [{ outlet := .a, value := 2500 }] := by decide

/-- Section 3.12 at L = 50: C falls to 1,300, and the ANNOUNCE carries the 2,000 that the stage still follows, K = 1,300. -/
theorem test_round_curtailed : let t := after .round { climbing with pv := { climbing.pv with curtail := [{ station := 2, level := 50, age := 0 }] } }
    t.se.ceiling = 1300 ∧ ((t.li.announceSlot.getD []).drop 6).take 4 = [0x07, 0xD0, 0x05, 0x14] := by decide

/-! ## The stage port -/

theorem test_stageMessageDiscarded : exec (.stageMessageDiscarded .unknown) climbing = .next climbing := rfl

/-- Section 7.14: SETTLED 0 in the ramp-down confirms the order, and the open is commanded. -/
theorem test_settled : let t := after (.settled .a 0) (station (ramping closedPort))
    t.outA.sp.isConfirmed = true ∧ t.outA.sp.contactor = .openWait ∧ t.outA.sc.step = .openStep := by decide

/-- R140: STAGE_FAULT in the ramp-down keeps the end reason. -/
theorem test_orderTimerExpiry : let t := after (.orderTimerExpiry .a) (station (ramping closedPort))
    t.outA.sc.session.bind SessionRecord.endReason = some 131 ∧ t.outA.sp.contactor = .openWait := by decide

theorem test_feedbackClosed : (after (.feedbackClosed .a) (station connecting)).outA.sc.state = .energising := by decide

/-- R100: a closed feedback in OPEN is a weld suspicion. -/
theorem test_feedbackClosed_weld : (after (.feedbackClosed .a) (station vacant)).outA.sc.state = .outOfService := by decide

/-- Section 7.14: with the plug in and the idle price 400,000, the opened contactor leads to IDLE. -/
theorem test_feedbackOpen : (after (.feedbackOpen .a) (station waiting)).outA.sc.state = .idle := by decide

/-- R99: the open that does not come is a weld suspicion, which ends the session with 136. -/
theorem test_contactorTimerExpiry : let t := after (.contactorTimerExpiry .a) (station opening)
    t.outA.sp.contactor = .welded ∧ t.sq.queue.map (fun e => e.record.endReason) = [some 136] := by decide

theorem test_plugInserted : (after (.plugInserted .a) (station awaiting)).outA.sc.state = .connecting := by decide

/-- R139: an unplugged session whose contactor is closed waits for the open at the open step. -/
theorem test_plugRemoved : let t := after (.plugRemoved .a) (station energising)
    t.outA.sc.session.bind SessionRecord.endReason = some 129 ∧ t.outA.sc.step = .openStep := by decide

/-- R145: with the contactor already open the session is settled at once. -/
theorem test_emergencyStopAsserted : let t := after .emergencyStopAsserted (station suspended)
    t.outA.sc.state = .outOfService ∧ t.outB.sc.state = .outOfService ∧
    t.sq.queue.map (fun e => e.record.endReason) = [some 138] := by decide

theorem test_emergencyStopReleased :
    (after .emergencyStopReleased (after .emergencyStopAsserted (station vacant))).outA.sc.state = .vacant := by decide

/-! ## Metering -/

/-- Outlet A of section 6.9, with the residue and the order confirmed. -/
def metered (residue : Nat) : OutletRecord :=
  { energising with
    mu := { energising.mu with residue := residue }
    sp := { energising.sp with ordered := 2500, confirmed := 2500 } }

/-- Section 6.9, samples 1 and 5: 1 Wh and 5,500,000 remain; 2 Wh and 1,574,600 remain, the overdraw count at 1, METER_CLAMPED. -/
theorem test_sample_carry : let t := after (.sample .a 4000 2500 false false) (station (metered 31500000))
    t.outA.mu.residue = 5500000 ∧ t.outA.mu.overdraw = 0 ∧ t.outA.sc.session.map SessionRecord.billedWh = some 1 := by decide

theorem test_sample_saturated : let t := after (.sample .a 12000 7000 true true) (station (metered 13574600))
    t.outA.mu.residue = 1574600 ∧ t.outA.mu.overdraw = 1 ∧ t.outA.sc.session.map SessionRecord.billedWh = some 2 ∧
    t.outA.sc.session.map (fun r => r.flags.meterClamped) = some true := by decide

/-- Section 6.10: 24 samples of 239,200,000 in all are a draw of 996. -/
theorem test_round_draw :
    let m := metered 0
    (after .round (station { m with mu := { m.mu with powerSum := 239200000, sampleCount := 24 } })).outA.mu.lastDraw = 996 := by decide

/-- Station #3 strapped to PULSE, one pulse before the close of a window, with the window's sample energy and the disagree count. -/
def pulsed (windowSample disagree : Nat) : State :=
  let s := station { energising with
    mu := { energising.mu with windowPulse := 990, windowSample := windowSample, disagree := disagree } }
  { s with cf := { s.cf with straps := { s.cf.straps with source := .pulse } } }

/-- Section 6.11, windows 4 and 7: 1,049 agrees, and 1,055 on top of two disagreements raises METER. -/
theorem test_meterPulse_agrees : let t := after (.meterPulse .a) (pulsed 1049 2)
    t.outA.mu.disagree = 0 ∧ t.isPending .meter = false ∧ t.outA.sc.session.map SessionRecord.billedWh = some 10 := by decide

theorem test_meterPulse_disagrees : let t := after (.meterPulse .a) (pulsed 1055 2)
    t.outA.mu.disagree = 0 ∧ t.isPending .meter = true ∧ t.outA.sc.session.map (fun r => r.flags.meterDisagree) = some true := by decide

theorem test_pulseInputReleased : let s := after (.meterPulse .a) (pulsed 1049 0)
    after (.meterPulse .a) s = s ∧ (after (.pulseInputReleased .a) s).outA.mu.pulseAsserted = false := by decide

theorem test_stageLost :
    (after (.stageLost .a) (station energising)).outA.sc.session.bind SessionRecord.endReason = some 135 := by decide

/-! ## Sessions, tariffs and settlement -/

/-- Section 7.14: the session with cost cap 300, its energy billed at 450 a Wh. -/
def capped (wh : Nat) : SessionRecord :=
  { opened with costCap := 300, billedWh := wh, lines := [{ band := 0, wh := wh, cost := wh * 450, price := 450 }] }

/-- Section 7.14: the Wh after 5,555 brings the cost to 3,000,200 and reaches the cap of 3,000,000. -/
theorem test_sample_costCap : let o := outletIn .energising closedPort (some (capped 5555))
    let t := after (.sample .a 6000 6000 false false) (station { o with mu := { o.mu with residue := 0 } })
    t.outA.sc.session.bind SessionRecord.endReason = some 131 ∧ t.outA.sc.session.map SessionRecord.billedWh = some 5556 := by decide

/-- Section 7.14: at the eleventh idle minute the total of 3,001,550 leaves no room for 400,000. -/
theorem test_idleMinute_clamped :
    let t := after (.idleMinute .a) (station (outletIn .idle openPort (some { capped 5559 with endReason := some 131, idleMinutes := 10 })))
    t.outA.sc.session.map (fun r => (r.idleMinutes, r.billedIdle, r.flags.idleClamped)) = some (11, 0, true) := by decide

/-- Section 8.10: without a cap the eleventh minute is billed at 400,000. -/
theorem test_idleMinute_billed :
    let t := after (.idleMinute .a) (station (outletIn .idle openPort (some { ended 131 with idleMinutes := 10 })))
    t.outA.sc.session.map (fun r => (r.billedIdle, r.idleFee)) = some (1, 400000) := by decide

/-- Sections 7.14 and 9.9: unplugged with a total of 3,001,550, the session settles to 300 hundredths with CAP_OVERRUN. -/
theorem test_plugRemoved_settles :
    let t := after (.plugRemoved .a) (station (outletIn .idle openPort (some { capped 5559 with endReason := some 131 })))
    t.sq.queue.map (fun e => (e.amount, e.record.flags.capOverrun)) = [(300, true)] ∧ t.sq.reserved = 0 ∧
    t.ts.bank0.bound = 0 := by decide

/-- The amounts of R161's table, and of section 8.10's bill. -/
theorem test_settledAmount : settledAmount 500000 = 50 ∧ settledAmount 30334999 = 3033 ∧ settledAmount 30335000 = 3034 ∧
    settledAmount 3001550 = 300 ∧ settledAmount 30332200 = 3033 := by decide

/-- The bands of R157's table. -/
theorem test_bandAt : let t := { tariff41 with bands := [⟨0, 1⟩, ⟨420, 2⟩, ⟨1020, 3⟩] }
    [419, 420, 1019, 1020, 1439, 0].map (fun m => (t.bandAt m).1) = [0, 1, 1, 2, 2, 0] := by decide

theorem test_noVehicle : let t := after (.noVehicle .a) (station awaiting)
    t.outA.sc.state = .vacant ∧ t.sq.queue.map (fun e => (e.record.endReason, e.amount)) = [(some 128, 50)] := by decide

/-- Section 7.14's OPEN_SESSION: outlet A, no energy cap, cost cap 300. -/
def openData : List Byte := [0, 1, 2, 3, 4, 5, 6, 7, 8, 0, 0, 0, 0, 0, 0, 1, 44]

/-- Section 7.14: session id 207 (0x00CF) and tariff id 41 (0x0029), CONNECTING with the plug in. -/
theorem test_openSession : let t := after (.openSession openData) { station vacant with nextId := 207 }
    answer t = some (0x00, [0x00, 0xCF, 0x00, 0x29]) ∧ t.outA.sc.state = .connecting ∧
    t.outA.sc.session = some { opened with costCap := 300 } ∧ t.ts.bank0.bound = 1 ∧ t.nextId = 208 := by decide

/-- R127: before CONFIGURE the refusal is NOT_CONFIGURED (section 11.6, at 200 ms). -/
theorem test_openSession_refused : answer (after (.openSession openData) State.reset) = some (0x03, []) := by decide

/-- R133: the demand is clamped to the rating of 4,000. -/
theorem test_demand : (after (.demand [0, 0xFF, 0xFF]) (station energising)).outA.sc.requested = 4000 := by decide

/-- R136: a reason above 127 is refused; 5 ends the session by a ramp-down, or at once where the order of 0 is confirmed. -/
theorem test_stopSession : answer (after (.stopSession [0, 128]) (station energising)) = some (0x02, []) ∧
    (after (.stopSession [0, 5]) (station (metered 0))).outA.sc.step = .rampDown ∧
    (after (.stopSession [0, 5]) (station energising)).outA.sc.step = .openStep := by decide

theorem test_readSession : ((answer (after (.readSession [0]) (station energising))).map fun a => a.2.length) = some 55 := by decide

/-- Section 8.9, the fifth row: with both banks bound LOAD_TARIFF is refused with BANK_BOUND. -/
def tariffData : List Byte := [0, 42, 0, 0, 0, 0, 0, 0, 0, 0, 0, 1, 0, 0, 0, 1]

theorem test_loadTariff_bound :
    let s := station energising
    let both := { s with ts := { s.ts with bank1 := { tariff := some tariff41, bound := 1 }, active := some .bank1 } }
    answer (after (.loadTariff tariffData) both) = some (0x0A, []) := by decide

/-- Section 8.9, the third row: the second load goes to bank 1 while bank 0 stays bound. -/
theorem test_loadTariff : let t := after (.loadTariff tariffData) (station energising)
    answer t = some (0x00, [1]) ∧ t.ts.active = some .bank1 ∧ t.ts.bank1.tariff.map Tariff.id = some 42 ∧
    t.ts.bank0 = { tariff := some tariff41, bound := 1 } := by decide

/-- A state with section 9.9's record queued. -/
def billed : State :=
  after (.plugRemoved .a) (station (outletIn .idle openPort (some { capped 5559 with endReason := some 131 })))

/-- Section 9.9: 58 bytes with the count, the id 207 and an amount of 300; the band line closes the record. -/
theorem test_readSettlement : ∃ d, answer (after (.readSettlement []) billed) = some (0x00, d) ∧ d.length = 58 ∧
    d.take 3 = [1, 0, 0xCF] ∧ (d.drop 48).take 3 = [0, 1, 44] ∧ d.drop 52 = [0, 0, 0x15, 0xB7, 0x01, 0xC2] :=
  ⟨_, rfl, by decide⟩

/-- R172: another id than the head's is a MISMATCH that names the head. -/
theorem test_releaseSettlement : answer (after (.releaseSettlement [0, 206]) billed) = some (0x0C, [0, 0xCF]) ∧
    answer (after (.releaseSettlement [0, 207]) billed) = some (0x00, [0]) ∧
    (after (.releaseSettlement [0, 207]) billed).sq.queue = [] := by decide

/-! ## Curtailment, halts and the reading commands -/

/-- Section 2.9: with #2 at level 60, an own level of 80 leaves L at 60 and raises nothing. -/
theorem test_setCurtail :
    let s := { station vacant with pv := { (station vacant).pv with curtail := [{ station := 2, level := 60, age := 1 }] } }
    let t := after (.setCurtail [80]) s
    t.pv.ownCurtail = some 80 ∧ t.pv.level = 60 ∧ t.isPending .curtail = false ∧
    (after (.setCurtail [50]) s).isPending .curtail = true := by decide

/-- R84 and R85: the frame's payload is the duration and reason 2. -/
theorem test_siteHalt : let t := after (.siteHalt [20]) (station energising)
    t.pv.hold = 20 ∧ (t.li.haltSlot.getD []).take 4 = [0x03, 2, 20, 2] ∧ t.outA.sc.state = .suspended := by decide

/-- R37: no curtail entry (255), no halt record (255), four peers, of which #5 and #6 are shown. -/
theorem test_readView : ∃ d, answer (after (.readView [3]) climbing) = some (0x00, d) ∧ d.take 8 = [100, 255, 0, 255, 0, 4, 2, 5] ∧
    d.length = 31 := ⟨_, rfl, by decide⟩

theorem test_readStatus : ((answer (after (.readStatus []) climbing)).map fun a => a.2.length) = some 81 := by decide

/-- R188: clearing every named cause leaves SETTLE_PENDING, bit 0, which follows the queue. -/
theorem test_clearCauses : answer (after (.clearCauses [0x03, 0xFF]) billed) = some (0x00, [0, 1]) := by decide

/-- R187: with the mask at 0 ATTENTION is released. -/
theorem test_setMask : billed.attention = true ∧ (after (.setMask [0, 0]) billed).attention = false := by decide

/-! ## The pedestal link -/

/-- The frame of IDENTIFY, but for its last byte, has been received. -/
def almost : State :=
  [0x7E, 0x01, 0x11, (crc16 [0x01, 0x11]).extractLsb' 8 8].foldl (fun s b => after (.linkByteReceived b) s) (station vacant)

theorem test_commandFrameComplete :
    let last := (crc16 [0x01, 0x11]).extractLsb' 0 8
    (answer (after (.commandFrameComplete last) almost)).map Prod.fst = some 0x00 ∧
    answer (after (.commandFrameComplete (last ^^^ 1)) almost) = some (0x01, []) ∧
    after (.linkByteReceived last) almost = after (.commandFrameComplete last) almost := by decide

theorem test_linkByteReceived : almost.pk.receiver = .body 0x01 [0x11, (crc16 [0x01, 0x11]).extractLsb' 8 8] := by decide

/-- R180: a length byte of 97 is answered with BAD_FRAME and code 0, and the receiver skips. -/
theorem test_linkBadLength :
    let s := { station vacant with pk := { (station vacant).pk with receiver := .length } }
    (after (.linkBadLength 97) s).pk.response = .sending { code := 0, status := 0x01, data := [] } ∧
    (after (.linkBadLength 97) s).pk.receiver = .skip := by decide

theorem test_linkStopBitError : (after .linkStopBitError almost).pk.receiver = .skip := by decide

theorem test_linkGapTimeout : (after .linkGapTimeout almost).pk.receiver = .hunt := by decide

theorem test_unknownCommand : answer (after (.unknownCommand 0x14 []) (station vacant)) = some (0x0D, []) := by decide

/-- Section 10.4: a release taken under HOLD, a DEMAND discarded while its response is HELD, and the release of HOLD. -/
def heldRelease : State := after (.releaseSettlement [0, 207]) (after .holdAsserted billed)

theorem test_holdAsserted : heldRelease.pk.response = .held { code := 0x51, status := 0x00, data := [0] } ∧
    heldRelease.sq.queue = [] ∧ (after (.demand [0, 0, 0]) heldRelease).isPending .linkOverrun = true := by decide

/-- R181: a RESTART taken under HOLD. A frame after its work finds the response HELD. -/
def restartHeld : State := after (.restart []) (after .holdAsserted (station vacant))

theorem test_restart_held : restartHeld.pk.response = .held { code := 0x13, status := 0x00, data := [] } ∧
    (after (.identify []) restartHeld).pk.command = .empty ∧
    (after (.identify []) restartHeld).isPending .linkOverrun = true := by decide

/-- The five bytes of the frame of IDENTIFY. -/
def identifyFrame : List Byte := 0x7E :: 0x01 :: 0x11 :: checkBytes [0x01, 0x11]

/-- HOLD is asserted, and a number of IDENTIFY frames will arrive while the work of the next RESTART is done. -/
def hearing (frames : Nat) : State :=
  let s := after .holdAsserted (station energising)
  { s with pk := { s.pk with restartInput := (List.replicate frames identifyFrame).flatten.map .byte } }

/-- R192, R181: within the work the first frame waits for the RESTART response, which is HELD, and a second is discarded. -/
theorem test_restart_frame : let t := after (.restart []) (hearing 1)
    t.pk.response = .held { code := 0x13, status := 0x00, data := [] } ∧ t.pk.command = .command 0x11 [] ∧
    t.pk.receiver = .hunt ∧ t.pk.restartInput = [] ∧ t.isPending .linkOverrun = false ∧
    (after (.restart []) (hearing 2)).isPending .linkOverrun = true := by decide

theorem test_holdReleased :
    (after .holdReleased heldRelease).pk.response = .sending { code := 0x51, status := 0x00, data := [0] } := by decide

/-- Section 10.4, the third row: what waited is taken when the response has gone. -/
theorem test_responseSent : let s := after (.readSettlement []) (after (.readStatus []) billed)
    (after .responseSent s).pk.command = .empty ∧ (answer (after .responseSent s)).map (fun a => a.2.length) = some 58 := by decide

/-! ## One step -/

/-- The front of the queue is executed, and the rest stays. -/
theorem test_step : step { State.reset with pending := [.lineIdle, .lineStuck] } = .next
    { State.reset with
      li := { State.reset.li with condition := .idle, recessive := 11 }
      pending := [.lineStuck] } := rfl

/-- Log entry 4. -/
theorem test_step_idles : step State.reset = .next State.reset := rfl

/-- The table gives no row any bits, so a word spells no command. -/
theorem test_withFetchWord : decodeTableWord 8 0x11 = none ∧ State.reset.withFetchWord 8 0x11 = State.reset := ⟨rfl, rfl⟩

/-! ## Well-formedness: each check refuses an ill-formed command -/

/-- Data of n bytes. -/
def zeros (n : Nat) : List Byte := List.replicate n 0

/-- R179: no command frame carries 96 bytes of data, and each may carry 95. -/
theorem test_wellFormed_data : ∀ f ∈ [Instr.configure, .identify, .setClock, .restart, .loadTariff, .openSession, .demand, .stopSession,
    .readSession, .setCurtail, .siteHalt, .readView, .readSettlement, .releaseSettlement, .readStatus, .clearCauses, .setMask,
    .unknownCommand 0x14], (f (zeros 96)).wellFormed = false ∧ (f (zeros 95)).wellFormed = true := by
  simp only [List.forall_mem_cons]
  decide

/-- R182 and R185: UNKNOWN_COMMAND names no defined code. -/
theorem test_wellFormed_unknown : (Instr.unknownCommand 0x10 []).wellFormed = false := by decide

/-- R6: too short, a byte count that is not the length's, and bytes after a length above 16. -/
theorem test_wellFormed_frame : (Instr.frameEvaluation []).wellFormed = false ∧ (Instr.frameEvaluation [0x23]).wellFormed = false ∧
    (Instr.frameEvaluation [0x23, 1, 50]).wellFormed = false ∧ (Instr.frameEvaluation [0x23, 17, 0]).wellFormed = false ∧
    (Instr.frameEvaluation [0x23, 17]).wellFormed = true ∧
    (Instr.frameEvaluation (parkFrame .curtail 3 [50])).wellFormed = true := by decide

/-- R2, R17 and R19: a tail cell is no cell of a driver fault, the header and a lead cell are no cell of a clash, and no own frame has
more than 150 cells. -/
theorem test_wellFormed_cell : (Instr.txFault 9).wellFormed = false ∧ (Instr.txFault 150).wellFormed = false ∧
    (Instr.txFault 148).wellFormed = true ∧ (Instr.numberClash (some 8)).wellFormed = false ∧
    (Instr.numberClash (some 20)).wellFormed = false ∧ (Instr.numberClash (some 19)).wellFormed = false ∧
    (Instr.numberClash (some 45)).wellFormed = true ∧ (Instr.numberClash none).wellFormed = true := by decide

/-- R180: a length byte of 1 to 96 is no bad length. -/
theorem test_wellFormed_length : (Instr.linkBadLength 1).wellFormed = false ∧ (Instr.linkBadLength 96).wellFormed = false ∧
    (Instr.linkBadLength 0).wellFormed = true ∧ (Instr.linkBadLength 97).wellFormed = true := by decide

/-! ## Witnesses: for each statement with hypotheses, states and operands that meet them, clause by clause -/

/-- Outlet A in every outlet state. -/
def scenes : List OutletRecord :=
  [vacant, awaiting, connecting, reclosing, energising, metered 0, suspended, opening, ramping closedPort, ramping openPort, waiting,
   idling, checking, welded]

set_option synthInstance.maxHeartbeats 400000 in
set_option synthInstance.maxSize 4000 in
theorem witness_outletLaw : ∀ o ∈ scenes, (station o).OutletLaw := by decide

/-- The law of the outlets rests on their records, the emergency stop and the straps. -/
theorem outletLaw_of (s t : State) (h : s.OutletLaw) (ha : t.outA = s.outA) (hb : t.outB = s.outB) (he : t.estop = s.estop)
    (hc : t.cf.straps = s.cf.straps) : t.OutletLaw := by
  simpa [State.OutletLaw, State.StageLaw, ha, hb, he, hc] using h

/-- The law holds of the station with outlet A in each scene. -/
theorem lawful (o : OutletRecord) (h : o ∈ scenes := by decide) : (station o).OutletLaw := witness_outletLaw o h

/-- A station of another line interface, peer view or share engine. -/
def withLi (s : State) (f : LineInterface → LineInterface) : State := { s with li := f s.li }
def withPv (s : State) (f : PeerView → PeerView) : State := { s with pv := f s.pv }
def withSe (s : State) (f : ShareEngine → ShareEngine) : State := { s with se := f s.se }
def withPk (s : State) (f : PedestalLink → PedestalLink) : State := { s with pk := f s.pk }

/-- A station halted for 5 s. -/
def halted (a : OutletRecord) : State := withPv (station a) fun v => { v with hold := 5, holdTimer := true }

/-- A station that is BARRED. -/
def barred (a : OutletRecord) : State := withSe (station a) fun e => { e with state := .barred }

/-- Station #3 with one outlet. -/
def single : State := { station vacant with cf := { (station vacant).cf with straps := { (station vacant).cf.straps with twoOutlets := false } } }

theorem witness_ClockTick : let s := { State.reset with cf := { State.reset.cf with day := 65535, second := 86399 } }
    (s.cf.second < 86400 ∧ s.cf.day < 65536) ∧ State.reset.cf.second < 86400 ∧ State.reset.cf.day < 65536 := by decide

theorem witness_Transmission :
    (let s := withLi (station vacant) fun li => { li with announceSlot := some [2] }
     s.li.condition = .idle ∧ s.se.state ≠ .barred ∧ s.li.activity = .quiet ∧ s.li.slot .announce = some [2] ∧
     s.li.slot .halt = none ∧ s.li.slot .curtail = none) ∧
    (let s := withLi (station vacant) fun li => { li with haltSlot := some [1], announceSlot := some [2] }
     s.li.slot .halt = some [1] ∧ ¬ FrameKind.curtail.code < FrameKind.halt.code ∧ ¬ FrameKind.announce.code < FrameKind.halt.code) ∧
    State.reset.li.condition ≠ .idle ∧ (barred vacant).se.state = .barred ∧ talking.li.activity = .sending .announce [2] false := by
  decide

theorem witness_Transmission_empty : ∀ k, (station vacant).li.slot k = none := fun k => by cases k <;> rfl

/-- A cell sent recessive in the header, a cell sent dominant, a tail, an IDLE, a BUSY and a STUCK line, and the fifteenth and sixteenth
cell of a dominant run. -/
theorem witness_LineEvents : (∃ bytes, calling.li.activity = .sending .announce bytes false ∧
      (frameCells bytes)[1 + (1 : Fin 8).val]? = some .recessive ∧ (frameCells bytes)[0]? = some .dominant ∧
      (frameCells bytes)[1 + (0 : Fin 8).val]? ≠ some .recessive ∧ (frameCells bytes)[9]? ≠ some .dominant) ∧
    (listening vacant).li.activity ≠ .quiet ∧ (station vacant).li.condition = .idle ∧
    (after .lineStuck talking).li.condition = .stuck ∧ talking.li.condition ≠ .stuck ∧ calling.li.condition ≠ .idle ∧
    (withLi calling fun li => { li with dominant := 14 }).li.dominant + 1 < 16 ∧
    ¬ (withLi calling fun li => { li with dominant := 15 }).li.dominant + 1 < 16 := ⟨⟨_, rfl, by decide⟩, by decide⟩

theorem witness_NumberClash : (station energising).OutletLaw ∧ (station energising).se.state ≠ .barred ∧
    (energising.sc.session = some opened ∧ energising.sc.state ≠ .outOfService ∧ energising.sp.feedbackClosed = true) ∧
    ((station idling).OutletLaw ∧ idling.sc.session = some (ended 131) ∧ idling.sc.state ≠ .outOfService ∧
      idling.sp.feedbackClosed = false) ∧
    (station checking).OutletLaw ∧ checking.sc.state = .outOfService ∧ (barred vacant).OutletLaw ∧ (barred vacant).se.state = .barred :=
  ⟨lawful _, by decide, by decide, ⟨lawful _, by decide⟩, lawful _, by decide,
   outletLaw_of (station vacant) _ (lawful _) rfl rfl rfl rfl, by decide⟩

theorem witness_NumberClash_cell : calling.OutletLaw ∧ calling.se.state ≠ .barred ∧
    (∃ bytes, ClashCell calling bytes 45) ∧ ∀ bytes, ¬ ClashCell calling bytes 40 :=
  ⟨outletLaw_of (station vacant) _ (lawful _) rfl rfl rfl rfl, by decide, ⟨_, ⟨_, _, rfl⟩, by decide, by decide, by decide⟩, by
    rintro bytes ⟨⟨k, r, h⟩, -, -, g⟩
    cases h
    exact absurd g (by decide)⟩

/-- Stations 0 and 7 at the bounds below N = 8, and 31 before CONFIGURE. -/
theorem witness_SentFramesAreAccepted : (listening vacant).evaluates ∧ 0 ≠ (listening vacant).ownStation ∧
    7 ≠ (listening vacant).ownStation ∧ (∀ k ∈ (listening vacant).cf.config, 7 < k.population) ∧ 65535 < 65536 ∧
    (withPv (listening vacant) fun _ => climbing.pv).pv.peers.Pairwise (fun a b => a.station < b.station) ∧
    (listening vacant).pv.curtail.Pairwise (fun a b => a.station < b.station) ∧
    (withLi State.reset fun li => { li with activity := .receiving }).evaluates ∧ 31 ≠ State.reset.ownStation ∧
    (∀ k ∈ State.reset.cf.config, 31 < k.population) := by decide

theorem witness_HaltFrameAccepted : (listening energising).evaluates ∧ 2 ≠ (listening energising).ownStation ∧
    (∀ k ∈ (listening energising).cf.config, 2 < k.population) ∧ (listening energising).pv.hold = 0 ∧
    0 < (withLi (halted suspended) fun li => { li with activity := .receiving }).pv.hold ∧
    (withLi (halted suspended) fun li => { li with activity := .receiving }).evaluates ∧
    (listening energising).OutletLaw ∧ (withLi (halted suspended) fun li => { li with activity := .receiving }).OutletLaw :=
  ⟨by decide, by decide, by decide, by decide, by decide, by decide, outletLaw_of (station energising) _ (lawful _) rfl rfl rfl rfl,
   outletLaw_of (station suspended) _ (lawful _) rfl rfl rfl rfl⟩

/-- Lengths 17 and 255; a payload of 16 with a bad check; kind 3; an ANNOUNCE of 10; the own number; the number N. -/
theorem witness_FramesRejected : (listening vacant).evaluates ∧ 16 < (17 : Byte).toNat ∧ 16 < (255 : Byte).toNat ∧
    (zeros 16).length ≤ 16 ∧ (zeros 2).length = 2 ∧ zeros 2 ≠ checkBytes (0x41 :: BitVec.ofNat 8 16 :: zeros 16) ∧
    3 ≤ (0x60 : Byte).toNat / 32 ∧ (0x41 : Byte).toNat / 32 = FrameKind.announce.code ∧
    (zeros 10).length ≠ FrameKind.announce.payloadLength ∧ (zeros 11).length = FrameKind.announce.payloadLength ∧
    (0x43 : Byte).toNat / 32 = FrameKind.announce.code ∧ (0x43 : Byte).toNat % 32 = (listening vacant).ownStation ∧
    (0x48 : Byte).toNat / 32 = FrameKind.announce.code ∧ (0x48 : Byte).toNat % 32 ≠ (listening vacant).ownStation ∧
    (∃ c ∈ (listening vacant).cf.config, c.population ≤ (0x48 : Byte).toNat % 32) :=
  ⟨by decide, by decide, by decide, by decide, by decide, by decide, by decide, by decide, by decide, by decide, by decide, by decide,
   by decide, by decide, ⟨park, by decide, by decide⟩⟩

/-- The last second of a halt over a SUSPENDED outlet whose contactor is open, and over one whose contactor is still opening. -/
def lastSecond (a : OutletRecord) : State := withPv (station a) fun v => { v with hold := 1, holdTimer := true }

/-- A SUSPENDED outlet whose session the fee has brought to its cost cap of 50 hundredths. -/
def suspendedCapped (port : StageOutlet) : OutletRecord := outletIn .suspended port (some { opened with costCap := 50 })

set_option synthInstance.maxHeartbeats 400000 in
set_option synthInstance.maxSize 4000 in
theorem witness_HoldTimerExpiry_capped : (lastSecond (suspendedCapped openPort)).OutletLaw ∧
    (lastSecond (suspendedCapped openingPort)).OutletLaw ∧ (suspendedCapped openPort).sc.state = .suspended ∧
    (suspendedCapped openPort).sp.plugPresent = true ∧
    (suspendedCapped openPort).sc.session.bind SessionRecord.capReached = some 131 ∧
    (suspendedCapped openPort).sp.ordered = 0 ∧ (suspendedCapped openPort).sp.isConfirmed = true := by decide

theorem witness_HoldTimerExpiry : (station vacant).pv.holdTimer = false ∧ (halted vacant).pv.holdTimer = true ∧
    1 < (halted vacant).pv.hold ∧
    ((lastSecond suspended).pv.holdTimer = true ∧ (lastSecond suspended).pv.hold ≤ 1 ∧ (lastSecond suspended).OutletLaw ∧
      (lastSecond suspended).outA.sc.state = .suspended ∧ (lastSecond suspended).outA.sp.plugPresent = true ∧
      (lastSecond suspended).outA.sc.session = some opened ∧ opened.capReached = none ∧
      (lastSecond suspended).outA.sp.contactor = .isOpen ∧ (lastSecond suspended).outB.sc.state ≠ .suspended) ∧
    ((lastSecond opening).OutletLaw ∧ (lastSecond opening).outA.sp.contactor ≠ .isOpen) :=
  ⟨by decide, by decide, by decide, ⟨by decide, by decide, outletLaw_of (station suspended) _ (lawful _) rfl rfl rfl rfl, by decide,
    by decide, by decide, by decide, by decide, by decide⟩, outletLaw_of (station opening) _ (lawful _) rfl rfl rfl rfl, by decide⟩

/-- A frame on the line while another is placed (R9). -/
theorem witness_Placed : ∃ k old replaced, talking.li.activity = .sending k old replaced := ⟨_, _, _, rfl⟩

theorem witness_SiteTrip : (withSe (station vacant) fun e => { e with tripInput := true }).se.tripInput = true ∧
    (State.reset.se.tripInput = false ∧ State.reset.cf.config = none) ∧
    ((station energising).se.tripInput = false ∧ (station energising).cf.config = some park ∧ 1 ≤ park.tripSeconds ∧
      (station energising).pv.hold = 0) ∧
    ((halted vacant).se.tripInput = false ∧ 0 < (halted vacant).pv.hold) ∧ (station energising).OutletLaw :=
  ⟨by decide, by decide, by decide, by decide, lawful _⟩

/-- Outlet A energising under an order of 2,500 that waits for its confirmation. -/
def ordered : OutletRecord :=
  { energising with sp := { closedPort with ordered := 2500, isConfirmed := false, orderTimer := .running } }

theorem witness_StageMessages : State.reset.fitted .b = false ∧ (2500#16).toNat ≠ (station energising).outA.sp.ordered ∧
    (station energising).outA.sp.isConfirmed = true ∧
    ((station ordered).fitted .a = true ∧ (2500#16).toNat = (station ordered).outA.sp.ordered ∧
      (station ordered).outA.sp.isConfirmed = false ∧ (station ordered).outA.sc.state ≠ .closing) ∧
    ∀ port ∈ [closedPort, openPort], (0#16).toNat = (ramping port).sp.ordered ∧ (ramping port).sp.isConfirmed = false ∧
      (station (ramping port)).OutletLaw ∧ (ramping port).sc.state = .closing ∧ (ramping port).sc.step = .rampDown ∧
      (ramping port).sc.session = some (ended 131) := by
  refine ⟨by decide, by decide, by decide, by decide, ?_⟩
  simp only [List.forall_mem_cons]
  exact ⟨⟨by decide, by decide, lawful _, by decide, by decide, by decide⟩,
    ⟨by decide, by decide, lawful _, by decide, by decide, by decide⟩, List.forall_mem_nil _⟩

/-- R93 and R105: a SETTLED that comes after the expiry confirms the order, and the timer has expired on it all the same. -/
theorem test_settled_late : let o := { ordered with sp := { ordered.sp with orderTimer := .expired } }
    let t := after (.settled .a 2500) (station o)
    t.outA.sp.isConfirmed = true ∧ t.outA.sp.orderTimer = .expired := by decide

set_option synthInstance.maxHeartbeats 400000 in
set_option synthInstance.maxSize 4000 in
theorem witness_OrderTimerExpiry : (station energising).OutletLaw ∧ (station energising).outA.sp.orderTimer ≠ .running ∧
    ((station ordered).OutletLaw ∧ (station ordered).outA.sp.orderTimer = .running ∧
      (station ordered).outA.sc.state.running = true ∧ (station ordered).outA.sc.session = some opened) ∧
    ((station (ramping closedPort)).OutletLaw ∧ (ramping closedPort).sp.orderTimer = .running ∧
      (ramping closedPort).sc.state = .closing ∧ (ramping closedPort).sc.step = .rampDown ∧
      (ramping closedPort).sc.session = some (ended 131)) ∧
    ((ramping openPort).sp.feedbackClosed = false) ∧
    (let v := { vacant with sp := { vacant.sp with isConfirmed := false, orderTimer := .running } }
     (station v).OutletLaw ∧ v.sp.orderTimer = .running ∧ v.sc.state.running = false ∧ v.sc.state ≠ .closing) := by decide

theorem witness_FeedbackClosed : State.reset.fitted .b = false ∧ energising.sp.feedbackClosed = true ∧
    ((station connecting).OutletLaw ∧ (station connecting).fitted .a = true ∧ connecting.sp.feedbackClosed = false ∧
      connecting.sp.contactor = .closeWait ∧ connecting.sc.state = .connecting) ∧
    ((station suspended).OutletLaw ∧ suspended.sp.contactor = .isOpen ∧ suspended.sp.feedbackClosed = false ∧
      suspended.sc.session = some opened) :=
  ⟨by decide, by decide, ⟨lawful _, by decide, by decide, by decide, by decide⟩, lawful _, by decide, by decide, by decide⟩

/-- A weld whose feedback has come to read open. -/
def unwelded : OutletRecord := { welded with sp := { welded.sp with feedbackClosed := false } }

/-- Closing in CLOSING: a close under way as the ramp-down began. -/
def rampingShut : OutletRecord := ramping closingPort

set_option synthInstance.maxHeartbeats 400000 in
set_option synthInstance.maxSize 4000 in
theorem witness_FeedbackClosed_rest : (station unwelded).OutletLaw ∧ (station unwelded).fitted .a = true ∧
    unwelded.sp.feedbackClosed = false ∧ unwelded.sp.contactor = .welded ∧
    (station rampingShut).OutletLaw ∧ rampingShut.sp.contactor = .closeWait ∧ rampingShut.sp.feedbackClosed = false ∧
    rampingShut.sc.state ≠ .connecting := by decide

theorem witness_FeedbackOpen : vacant.sp.feedbackClosed = false ∧
    ((station welded).OutletLaw ∧ (station welded).fitted .a = true ∧ welded.sp.feedbackClosed = true ∧
      welded.sp.contactor = .welded) ∧
    ((station reclosing).OutletLaw ∧ reclosing.sp.contactor = .openWait ∧ reclosing.sp.feedbackClosed = true ∧
      reclosing.sc.state = .connecting) ∧
    ((station opening).OutletLaw ∧ opening.sp.contactor = .openWait ∧ opening.sc.state = .suspended) ∧
    ((station waiting).OutletLaw ∧ waiting.sp.contactor = .openWait ∧ waiting.sc.state = .closing ∧
      waiting.sc.session = some (ended 131) ∧ waiting.sp.ordered = 0) ∧
    ((station checking).OutletLaw ∧ checking.sp.contactor = .openWait ∧ checking.sc.state = .outOfService ∧
      checking.sc.session = some (ended 138)) ∧
    ((station energising).OutletLaw ∧ energising.sp.contactor = .closed ∧ energising.sp.feedbackClosed = true ∧
      energising.sc.session = some opened) :=
  ⟨by decide, ⟨lawful _, by decide, by decide, by decide⟩, ⟨lawful _, by decide, by decide, by decide⟩,
   ⟨lawful _, by decide, by decide⟩, ⟨lawful _, by decide, by decide, by decide, by decide⟩,
   ⟨lawful _, by decide, by decide, by decide⟩, lawful _, by decide, by decide, by decide⟩

/-- R200's restart leaves an OUT_OF_SERVICE outlet without a session to wait for its open. -/
def restarted : OutletRecord := outletIn .outOfService openingPort none

set_option synthInstance.maxHeartbeats 400000 in
set_option synthInstance.maxSize 4000 in
theorem witness_FeedbackOpen_restarted : (station restarted).OutletLaw ∧ restarted.sp.contactor = .openWait ∧
    restarted.sc.state = .outOfService ∧ restarted.sc.session = none := by decide

theorem witness_ContactorTimerExpiry : (station vacant).OutletLaw ∧ vacant.sp.contactorTimer = false ∧
    ((station connecting).OutletLaw ∧ connecting.sp.contactor = .closeWait ∧ connecting.sp.ordered = 0 ∧
      connecting.sc.session = some opened) ∧
    ((station opening).OutletLaw ∧ opening.sp.contactor = .openWait ∧ opening.sc.session = some opened) :=
  ⟨lawful _, by decide, ⟨lawful _, by decide, by decide, by decide⟩, lawful _, by decide, by decide⟩

theorem witness_PlugInserted : State.reset.fitted .b = false ∧ vacant.sp.plugPresent = true ∧
    ((station awaiting).OutletLaw ∧ (station awaiting).fitted .a = true ∧ awaiting.sp.plugPresent = false ∧
      awaiting.sc.state = .awaitPlug ∧ awaiting.sc.session = some opened ∧ (station awaiting).pv.isHalted = false ∧
      opened.capReached = none) ∧
    (halted awaiting).pv.isHalted = true ∧ ({ opened with costCap := 50 } : SessionRecord).capReached = some 131 :=
  ⟨by decide, by decide, ⟨lawful _, by decide, by decide, by decide, by decide, by decide, by decide⟩, by decide, by decide⟩

theorem witness_PlugRemoved : awaiting.sp.plugPresent = false ∧
    ((station vacant).OutletLaw ∧ (station vacant).fitted .a = true ∧ vacant.sp.plugPresent = true ∧ vacant.sc.state = .vacant) ∧
    ((station energising).OutletLaw ∧ energising.sp.plugPresent = true ∧ energising.sc.state.running = true ∧
      energising.sc.session = some opened) ∧
    ((station (ramping closedPort)).OutletLaw ∧ (ramping closedPort).sp.plugPresent = true ∧
      (ramping closedPort).sc.state = .closing ∧ (ramping closedPort).sc.step = .rampDown) ∧
    ((station idling).OutletLaw ∧ idling.sp.plugPresent = true ∧ idling.sc.state = .idle ∧ idling.sc.session = some (ended 131)) :=
  ⟨by decide, ⟨lawful _, by decide, by decide, by decide⟩, ⟨lawful _, by decide, by decide, by decide⟩,
   ⟨lawful _, by decide, by decide, by decide⟩, lawful _, by decide, by decide, by decide⟩

set_option synthInstance.maxHeartbeats 400000 in
set_option synthInstance.maxSize 4000 in
theorem witness_EmergencyStop : (station energising).OutletLaw ∧ (station energising).estop = false ∧
    energising.sc.session.isSome = true ∧ energising.sp.feedbackClosed = true ∧ suspended.sp.feedbackClosed = false ∧
    (after .emergencyStopAsserted (station vacant)).OutletLaw ∧ (after .emergencyStopAsserted (station vacant)).estop = true ∧
    (let s := after .emergencyStopAsserted (station unwelded)
     s.OutletLaw ∧ s.estop = true ∧ s.fitted .a = true ∧ s.outA.sp.contactor = .welded ∧ s.outA.sp.feedbackClosed = false ∧
     s.outA.sp.ordered = 0) := by
  decide

/-- A session with its contactor open is settled by the assertion, and leaves nothing behind at the outlet. -/
theorem witness_EmergencyStop_settled : (station suspended).OutletLaw ∧ (station suspended).estop = false ∧
    (after .emergencyStopAsserted (station suspended)).outA.sc.openCheck = false ∧
    [Outlet.a, Outlet.b].filterMap (fun x => if ((station suspended).outlet x).sp.feedbackClosed = false then
      ((station suspended).outlet x).sc.session.map fun r => { r with endReason := some 138 } else none) = [ended 138] :=
  ⟨lawful _, by decide, by decide, by decide⟩

/-- The station with outlet A as given obeys the law of the queue and of the bill. -/
theorem billLaw_of (s : State) (h : (s.sq.reserved = s.openSessions.length ∧ s.sq.queue.length + s.sq.reserved ≤ 16 ∧
      s.ts.bank0.bound = s.boundTo .bank0 ∧ s.ts.bank1.bound = s.boundTo .bank1 ∧
      (∀ i ∈ s.ts.active, (s.ts.bank i).tariff.isSome = true) ∧
      (∀ r ∈ s.openSessions, (s.ts.bank r.bank).tariff.map (fun t => (t.id, t.fee)) = some (r.tariffId, r.fee))) ∧
      (∀ t ∈ s.ts.bank0.tariff, t.StartsAtZero) ∧ (∀ t ∈ s.ts.bank1.tariff, t.StartsAtZero) ∧
      (∀ r ∈ s.openSessions, r.Lawful ∧ ∀ t ∈ (s.ts.bank r.bank).tariff, r.PricedBy t) ∧
      (∀ e ∈ s.sq.queue, e.record.Lawful ∧ e.amount = (e.record.total + 5000) / 10000))
    (ha : s.outA.sc.state = .vacant ∨ (s.outA.sc.state = .outOfService ∧ s.outA.sc.openCheck = false) → s.outA.sc.session = none)
    (hb : s.outB.sc.state = .vacant ∨ (s.outB.sc.state = .outOfService ∧ s.outB.sc.openCheck = false) → s.outB.sc.session = none) :
    s.BillLaw := by
  obtain ⟨⟨h1, h2, h3, h4, h5, h6⟩, h7⟩ := h
  exact ⟨⟨h1, h2, h3, h4, h5, h6, fun x => by cases x <;> assumption⟩, h7⟩

theorem station_billLaw : ∀ o ∈ [vacant, energising, metered 35999999], (station o).BillLaw := by
  simp only [List.forall_mem_cons]
  exact ⟨billLaw_of _ (by decide) (by decide) (by decide), billLaw_of _ (by decide) (by decide) (by decide),
    billLaw_of _ (by decide) (by decide) (by decide), List.forall_mem_nil _⟩

set_option synthInstance.maxHeartbeats 400000 in
set_option synthInstance.maxSize 4000 in
theorem metered_outletLaw : (station (metered 35999999)).OutletLaw ∧ (station (metered 0)).OutletLaw := by decide

theorem witness_SampleMetering : State.reset.fitted .b = false ∧
    ((station vacant).fitted .a = true ∧ vacant.mu.windowOpen = false) ∧
    (suspended.mu.windowOpen = true ∧ suspended.sp.feedbackClosed = false) ∧
    ((station (metered 35999999)).OutletLaw ∧ (station (metered 35999999)).BillLaw ∧ (metered 35999999).mu.residue < 36000000 ∧
      (metered 35999999).mu.windowOpen = true ∧ (metered 35999999).sp.feedbackClosed = true ∧
      (metered 35999999).sc.session = some opened) :=
  ⟨by decide, by decide, by decide, metered_outletLaw.1, station_billLaw _ (by decide), by decide, by decide, by decide, by decide⟩

/-- Below, at and above the limit of (0 + 100) × 10,000, with the overdraw count at 0 and at 19, and a
saturated sample that carries 1 Wh. -/
theorem witness_Overdraw : (station energising).OutletLaw ∧ (station energising).fitted .a = true ∧
    (station energising).cf.config = some park ∧ energising.sc.state = .energising ∧ energising.sc.session = some opened ∧
    samplePower 1000 1000 false false ≤ (energising.sp.inForce + park.tolerance) * 10000 ∧
    ((energising.sp.inForce + park.tolerance) * 10000 < samplePower 1000 1001 false false ∧ energising.mu.overdraw < 19) ∧
    (let o := { energising with mu := { energising.mu with overdraw := 19 } }
     (station o).OutletLaw ∧ ¬ o.mu.overdraw < 19 ∧ o.sc.state = .energising) ∧
    (0 + samplePower 0 1 true true) / 36000000 = 1 ∧ (station energising).cf.straps.source = .sample ∧
    (((station energising).deliver .a 1 (61200 / 60)).outlet .a).sc.state = .energising ∧
    (pulsed 0 0).cf.straps.source = .pulse :=
  ⟨lawful _, by decide, by decide, by decide, by decide, by decide, by decide, ⟨lawful energising, by decide, by decide⟩, by decide,
   by decide, by decide, by decide⟩

/-- A record 1 Wh below the limit, and the two caps. -/
theorem witness_EnergyDelivery : (station energising).OutletLaw ∧ energising.sc.session = some opened ∧ opened.billedWh ≤ 2000000 ∧
    ((station energising).ts.bank opened.bank).tariff = some tariff41 ∧ energising.sc.state.running = true ∧
    idling.sc.state.running = false ∧
    (let r := { opened with billedWh := 1999999 }
     r.billedWh ≤ 2000000 ∧ 0 < min 2 (2000000 - r.billedWh) ∧ r.billedWh + min 2 (2000000 - r.billedWh) = 2000000) ∧
    (let r := { opened with energyCap := 1 }
     0 < r.energyCap ∧ r.energyCap ≤ r.billedWh + 1) ∧
    (let r := capped 5556
     0 < r.costCap ∧ r.costCap * 10000 ≤ r.fee + (r.lines.map BandLine.cost).sum ∧ r.energyCap = 0) :=
  ⟨lawful _, by decide, by decide, by decide, by decide, by decide, by decide, by decide, by decide⟩

/-- The window before, at and past its close: 989 and 990 Wh with a weight of 10; sample energies at 950, 1,050 and 1,051. -/
theorem witness_MeterPulses : (station vacant).cf.straps.source = .sample ∧ (after (.meterPulse .a) (pulsed 1049 0)).outA.mu.pulseAsserted = true ∧
    ((pulsed 1050 2).cf.straps.source = .pulse ∧ (pulsed 1050 2).fitted .a = true ∧ (pulsed 1050 2).outA.mu.pulseAsserted = false ∧
      (pulsed 1050 2).outA.mu.windowOpen = true ∧ (pulsed 1050 2).cf.config = some park ∧
      (pulsed 1050 2).outA.sc.session = some opened ∧ opened.billedWh + park.pulseWeight < 2000000 ∧ opened.energyCap = 0 ∧
      opened.costCap = 0 ∧ 1 ≤ park.pulseWeight ∧ ¬ (pulsed 1050 2).outA.mu.windowPulse + park.pulseWeight < 1000 ∧
      (pulsed 1050 2).outA.mu.windowSample ≤ 1050 ∧ 950 ≤ (pulsed 950 2).outA.mu.windowSample) ∧
    ((pulsed 1050 2).OutletLaw ∧ (pulsed 1051 2).OutletLaw ∧ ¬ (pulsed 1051 1).outA.mu.windowSample ≤ 1050 ∧
      (pulsed 1051 1).outA.mu.disagree < 2 ∧ ¬ (pulsed 1051 2).outA.mu.disagree < 2) ∧
    (let s : State := { pulsed 0 0 with outA := { energising with mu := { energising.mu with windowPulse := 989 } } }
     s.OutletLaw ∧ s.cf.straps.source = .pulse ∧ s.outA.mu.windowOpen = true ∧
     s.outA.mu.windowPulse + park.pulseWeight < 1000) ∧
    (1000 ≤ (pulsed 1050 2).outA.mu.windowPulse + park.pulseWeight ∧
      (((pulsed 1050 2).deliver .a park.pulseWeight 0).outlet .a).mu.windowOpen = true) :=
  ⟨by decide, by decide, by decide, ⟨lawful energising, lawful energising, by decide, by decide, by decide⟩,
   ⟨lawful energising, by decide, by decide, by decide⟩, by decide⟩

/-- Idle minutes at the grace of 10 and after it, at the maximum of 60, and at a cap that the minute does not fit. -/
theorem witness_SessionTimers : vacant.mu.silenceTimer = false ∧ vacant.sc.awaitTimer = false ∧ vacant.sc.idleTimer = false ∧
    ((station energising).OutletLaw ∧ energising.mu.silenceTimer = true ∧ energising.sc.session = some opened) ∧
    ((station awaiting).OutletLaw ∧ awaiting.sc.awaitTimer = true ∧ awaiting.sc.session = some opened) ∧
    ((station idling).OutletLaw ∧ idling.sc.idleTimer = true ∧ idling.sc.session = some (ended 131) ∧
      ((station idling).ts.bank (ended 131).bank).tariff = some tariff41) ∧
    (min (9 + 1) 65535 ≤ tariff41.idleGrace ∧ ¬ min (10 + 1) 65535 ≤ tariff41.idleGrace ∧ ¬ tariff41.idleMax ≤ 59 ∧
      tariff41.idleMax ≤ 60 ∧ (ended 131).costCap = 0 ∧
      ¬ (capped 5559).total + tariff41.idlePrice ≤ (capped 5559).costCap * 10000) :=
  ⟨by decide, by decide, by decide, ⟨lawful _, by decide, by decide⟩, ⟨lawful _, by decide, by decide⟩,
   ⟨lawful _, by decide, by decide, by decide⟩, by decide⟩

/-- A receiver in each state; the length bytes 1 and 96; a BODY with one byte to come before its last. -/
def receiving (r : Receiver) : State := withPk (station vacant) fun k => { k with receiver := r }

theorem witness_ReceiverByteByByte : (station vacant).pk.receiver = .hunt ∧ (receiving .skip).pk.receiver = .skip ∧
    (receiving .length).pk.receiver = .length ∧ 1 ≤ (1 : Byte).toNat ∧ (96 : Byte).toNat ≤ 96 ∧
    (receiving (.body 1 [0x11])).pk.receiver = .body 1 [0x11] ∧ [(0x11 : Byte)].length + 1 < (1 : Byte).toNat + 2 ∧
    ((0 : Byte).toNat = 0 ∧ 96 < (97 : Byte).toNat ∧ 96 < (255 : Byte).toNat) ∧
    ((receiving (.body 1 [0x11, 0])).pk.receiver = .body 1 [0x11, 0] ∧ [(0x11 : Byte), 0].length + 1 = (1 : Byte).toNat + 2) := by decide

/-- A command waits behind a response being sent. -/
def busy : State := after (.readSettlement []) (after (.readStatus []) (receiving (.body 1 [0x11, 0x0E])))

theorem witness_FrameOnTheLink : (receiving .length).pk.receiver = .length ∧ (station vacant).pk.receiver ≠ .length ∧
    (0 : Byte).toNat = 0 ∧ 96 < (97 : Byte).toNat ∧
    (let s := receiving (.body 1 [0x11, 0])
     s.pk.receiver = .body 1 [0x11, 0] ∧ [(0x11 : Byte), 0].length = (1 : Byte).toNat + 1 ∧ s.linkBlocked = false) ∧
    busy.linkBlocked = true ∧ busy.pk.receiver = .body 1 [0x11, 0x0E] ∧
    (Instr.identify []).commandFrame = some (0x11, []) ∧ almost.pk.receiver = .body 1 [0x11, (crc16 [1, 0x11]).extractLsb' 8 8] := by
  decide

theorem witness_FrameBytesAreTheCommand : (Instr.configure (zeros 95)).commandFrame = some (0x10, zeros 95) ∧
    (zeros 95).length ≤ 95 ∧ (station vacant).pk.receiver = .hunt := ⟨rfl, by decide, by decide⟩

theorem witness_CommandsWaitOrAreDiscarded : (Instr.identify []).commandFrame = some (0x11, []) ∧ busy.pk.command ≠ .empty ∧
    heldRelease.pk.response = .held { code := 0x51, status := 0x00, data := [0] } ∧
    (after (.setMask [0, 0]) (station vacant)).pk.command = .empty ∧
    (after (.setMask [0, 0]) (station vacant)).pk.response = .sending { code := 0x62, status := 0x00, data := [0, 0] } ∧
    (station vacant).linkFree ∧ (Instr.unknownCommand 0x14 []).commandFrame = some (0x14, []) ∧
    LinkCommand.ofCode 0x14 = none ∧
    (restartHeld.pk.response = .held { code := 0x13, status := 0x00, data := [] } ∧ restartHeld.pk.command = .empty) := by decide

theorem witness_ResponseBufferEvents : heldRelease.pk.response = .held { code := 0x51, status := 0x00, data := [0] } ∧
    (station vacant).pk.response = .empty ∧ (busy.pk.command = .command 0x50 [] ∧
      (Instr.readSettlement []).commandFrame = some (0x50, [])) ∧
    (let s := after (.setMask [0, 0]) (receiving .length)
     s.pk.response = .sending { code := 0x62, status := 0x00, data := [0, 0] } ∧ s.pk.command = .empty ∧
     (after (.linkBadLength 97) s).pk.command = .badFrame 0 ∧
     (after (.linkBadLength 97) s).pk.response = .sending { code := 0x62, status := 0x00, data := [0, 0] }) := by decide

/-- Section 3.11's configuration, the smallest (N = 2, M + F × N = 100 = B), and one whose M + F × N is 1 above B. -/
theorem witness_Configure : (station vacant).linkFree ∧ (station vacant).cf.config.isSome = true ∧ State.reset.linkFree ∧
    State.reset.cf.config = none ∧ (zeros 18).length ≠ 19 ∧ State.reset.se.tripInput = false ∧
    parkData = bytesOf 2 16000 ++ bytesOf 2 400 ++ bytesOf 2 300 ++ bytesOf 1 8 ++ bytesOf 2 500 ++ bytesOf 2 4000 ++ bytesOf 2 4000 ++
      bytesOf 2 3000 ++ bytesOf 2 100 ++ bytesOf 1 10 ++ bytesOf 1 30 ∧
    (100 ≤ 100 ∧ 0 ≤ 1 ∧ 2 ≤ 2 ∧ 2 ≤ 32 ∧ State.reset.ownStation < 2 ∧ 1 ≤ 1 ∧ State.reset.cf.straps.twoOutlets = false ∧
      100 + 0 * 2 ≤ 100) ∧ ¬ 101 + 0 * 2 ≤ 100 ∧
    (withSe State.reset fun e => { e with tripInput := true }).se.tripInput = true := by decide

theorem witness_Identify : State.reset.linkFree ∧ [(0 : Byte)] ≠ [] ∧
    ({ station := 0, rate := 3, source := false, outlets := false } : StrapPins).rate = 3 := by decide

theorem witness_SetClock : State.reset.linkFree ∧ (zeros 4).length ≠ 5 ∧ 65535 < 65536 ∧ 16777215 < 16777216 := by decide

/-- The station with its site-trip input asserted. -/
def tripped : State := withSe (station energising) fun e => { e with tripInput := true }

theorem witness_Restart : (station energising).linkFree ∧ (station energising).OutletLaw ∧ (station energising).QueueLaw ∧
    (station energising).se.tripInput = false ∧ [(0 : Byte)] ≠ [] ∧ (station energising).fitted .a = true ∧
    (closingPort.contactor = .closeWait ∧ closingPort.feedbackClosed = false ∧ (station connecting).OutletLaw) ∧
    (tripped.linkFree ∧ tripped.OutletLaw ∧ tripped.QueueLaw ∧ tripped.se.tripInput = true ∧ tripped.cf.config = some park) ∧
    ((hearing 2).linkFree ∧ (hearing 2).pk.restartInput.length = 10) :=
  ⟨by decide, lawful _, (station_billLaw _ (by decide)).1, by decide, by decide, by decide, ⟨by decide, by decide, lawful _⟩,
   ⟨by decide, lawful energising, (station_billLaw energising (by decide)).1, by decide, by decide⟩, by decide, by decide⟩

/-- A count of 7, 20 bytes with a count of 1, the tariff of section 8.10, and start minutes that stand still. -/
theorem witness_LoadTariff : (station vacant).linkFree ∧ ((zeros 40).length = 12 + 4 * 7 ∧ (zeros 20).length ≠ 12 + 4 * 1) ∧
    (1 ≤ tariff41.bands.length ∧ tariff41.bands.length ≤ 6 ∧ (∀ b ∈ tariff41.bands, b.start < 65536 ∧ b.price < 65536) ∧
      tariff41.id ≠ 0 ∧ tariff41.idleMax ≤ 1440 ∧ tariff41.bands.head?.map Band.start = some 0 ∧
      (∀ b ∈ tariff41.bands, b.start ≤ 1439) ∧ tariff41.bands.Pairwise (fun a b => a.start < b.start)) ∧
    ¬ ([⟨0, 1⟩, ⟨0, 2⟩] : List Band).Pairwise (fun a b => a.start < b.start) ∧ (∃ b ∈ ([⟨0, 1⟩, ⟨1440, 2⟩] : List Band), 1439 < b.start) ∧
    tariffData = bytesOf 2 42 ++ bytesOf 3 0 ++ bytesOf 1 0 ++ bytesOf 3 0 ++ bytesOf 2 0 ++ bytesOf 1 1 ++ (bytesOf 2 0 ++ bytesOf 2 1) :=
  ⟨by decide, by decide, by decide, by decide, ⟨⟨1440, 2⟩, by decide, by decide⟩, by decide⟩

theorem witness_OpenSessionRefused : State.reset.linkFree ∧ (zeros 16).length ≠ 17 ∧ (zeros 8).length = 8 ∧ 2000001 < 2 ^ 32 ∧
    State.reset.cf.config = none ∧ Outlet.a.byte = 0 ∧
    (let s : State := { station vacant with cf := { (station vacant).cf with clockSet := false } }
     s.linkFree ∧ s.cf.config.isSome = true ∧ s.cf.clockSet = false) ∧
    (single.linkFree ∧ single.cf.clockSet = true ∧ single.fitted .b = false) ∧
    ((station energising).fitted .a = true ∧ (station energising).outA.sc.state ≠ .vacant) ∧ (barred vacant).se.state = .barred ∧
    (let s : State := { station vacant with ts := State.reset.ts }
     s.linkFree ∧ s.outA.sc.state = .vacant ∧ s.se.state ≠ .barred ∧ s.ts.active = none) ∧
    (let s : State := { station vacant with sq := { queue := [], reserved := 16 } }
     s.linkFree ∧ s.ts.active = some .bank0 ∧ (s.ts.bank .bank0).tariff = some tariff41 ∧
     16 ≤ s.sq.queue.length + s.sq.reserved) := by decide

/-- Without a plug, with a plug while halted, with a plug, and at a cost cap of 50 hundredths that the fee of 500,000 reaches. -/
theorem witness_OpenSessionAccepted : (station vacant).linkFree ∧ (station vacant).OutletLaw ∧ (zeros 8).length = 8 ∧
    (station vacant).cf.config.isSome = true ∧ (station vacant).cf.clockSet = true ∧ (station vacant).fitted .a = true ∧
    vacant.sc.state = .vacant ∧ (station vacant).se.state ≠ .barred ∧ (station vacant).ts.active = some .bank0 ∧
    ((station vacant).ts.bank .bank0).tariff = some tariff41 ∧ (station vacant).sq.queue.length + (station vacant).sq.reserved < 16 ∧
    vacant.sp.plugPresent = true ∧ (station vacant).pv.isHalted = false ∧ (halted vacant).pv.isHalted = true ∧
    tariff41.fee < 51 * 10000 ∧ 50 * 10000 ≤ tariff41.fee ∧
    (let v := { vacant with sp := { vacant.sp with plugPresent := false } }
     (station v).OutletLaw ∧ v.sp.plugPresent = false) :=
  ⟨by decide, lawful _, by decide, by decide, by decide, by decide, by decide, by decide, by decide, by decide, by decide, by decide,
   by decide, by decide, by decide, by decide, lawful vacant, by decide⟩

theorem witness_Demand : (station energising).linkFree ∧ (zeros 2).length ≠ 3 ∧ 1 < (([2, 0, 0] : List Byte).headD 0).toNat ∧
    65535 < 65536 ∧ single.linkFree ∧ single.fitted .b = false ∧ energising.sc.state = .energising ∧ vacant.sc.state = .vacant ∧
    (station energising).cf.config = some park := by
  decide

theorem witness_StopSession : (station energising).linkFree ∧ (station energising).OutletLaw ∧ 127 < (128 : Byte).toNat ∧
    (127 : Byte).toNat ≤ 127 ∧ single.fitted .b = false ∧ (vacant.sc.state ≠ .awaitPlug ∧ vacant.sc.state.running = false) ∧
    (energising.sc.session = some opened ∧ energising.sc.state.running = true) ∧
    ((station awaiting).OutletLaw ∧ awaiting.sc.state = .awaitPlug ∧ awaiting.sc.session = some opened) :=
  ⟨by decide, lawful _, by decide, by decide, by decide, by decide, by decide, lawful _, by decide, by decide⟩

theorem witness_ReadingCommands : (station vacant).linkFree ∧ (station vacant).sq.queue = [] ∧
    billed.sq.queue.map (fun e => e.record.auth.length) = [8] ∧ (withPk billed id).linkFree ∧ 31 < (32 : Byte).toNat ∧
    (31 : Byte).toNat ≤ 31 ∧ single.fitted .b = false ∧ single.linkFree ∧ vacant.sc.session = none ∧
    energising.sc.session = some opened ∧ opened.auth.length = 8 ∧ (station vacant).curtailEntries = [] := by decide

/-- Two entries at the lowest level, of which #2 is reported. -/
theorem witness_ReadingCommands_view :
    let s := withPv (station vacant) fun v => { v with curtail := [⟨2, 60, 0⟩, ⟨6, 60, 1⟩] }
    s.linkFree ∧ s.ViewLaw ∧ s.curtailEntries ≠ [] := by decide

theorem witness_SetCurtail : (station vacant).linkFree ∧ 100 < (101 : Byte).toNat ∧ (100 : Byte).toNat ≤ 100 ∧ State.reset.linkFree ∧
    State.reset.cf.config = none ∧ (station vacant).cf.config.isSome = true ∧ (station vacant).se.origin = 100 ∧
    (withSe (station vacant) fun e => { e with origin := 80 }).se.origin ≠ 100 := by decide

theorem witness_SiteHalt : (station energising).linkFree ∧ 1 ≤ (1 : Byte).toNat ∧ State.reset.cf.config = none ∧
    (station energising).cf.config.isSome = true ∧ (station energising).pv.hold = 0 ∧ 0 < (halted vacant).pv.hold ∧
    (halted vacant).linkFree ∧ (station energising).OutletLaw :=
  ⟨by decide, by decide, by decide, by decide, by decide, by decide, by decide, lawful _⟩

theorem witness_ReleaseSettlement : (station vacant).linkFree ∧ (station vacant).sq.queue = [] ∧ (zeros 3).length ≠ 2 ∧
    bytesOf 2 207 = [0, 0xCF] ∧ billed.linkFree ∧ billed.sq.queue.map (fun e => e.record.id) = [207] ∧ 206 ≠ 207 ∧
    65535 < 65536 := by decide

theorem witness_ClearCauses : billed.linkFree ∧ (zeros 3).length ≠ 2 ∧ 1024 ≤ 1024 ∧ 65535 < 65536 := by decide

theorem witness_SetMask : billed.linkFree ∧ (zeros 1).length ≠ 2 ∧ 1024 ≤ 1024 ∧ 65535 < 65536 := by decide

/-- Three failed rounds; the ninth round acknowledged; ISOLATED acknowledged and not. -/
theorem witness_RoundTransitions :
    (let s := withSe (station vacant) fun e => { e with state := .joining, frameBuilt := true, failed := 2 }
     (after .round s).se.state = .isolated) ∧
    (let s := withSe (station vacant) fun e => { e with state := .joining, timer := 8, frameBuilt := true, ackReported := true }
     (after .round s).se.state = .sharing) ∧
    (let s := withSe (station vacant) fun e => { e with state := .isolated, frameBuilt := true, ackReported := true }
     (after .round s).se.state = .joining) ∧
    (after .round (station vacant)).se.state = .sharing ∧ (after .round (barred vacant)).se.state = .barred ∧
    (after .round State.reset).se.state = .unconfigured := by decide

theorem witness_RoundArithmetic_law : climbing.ViewLaw ∧ (barred vacant).ViewLaw ∧ (halted vacant).ViewLaw :=
  ⟨by decide, by decide, by decide⟩

theorem witness_RoundArithmetic : climbing.cf.config = some park ∧ climbing.se.tripInput = false ∧
    (after .round climbing).se.state = .sharing ∧ climbing.pv.isHalted = false ∧ (barred vacant).cf.config = some park ∧
    (after .round (barred vacant)).se.state = .barred ∧
    (after .round (withSe (station vacant) fun e => { e with state := .isolated })).se.state = .isolated ∧
    (halted vacant).pv.isHalted = true := by decide

/-- A station before CONFIGURE, in UNCONFIGURED and in BARRED, with its site-trip input asserted. -/
def unconfigured (st : ShareState) : State := withSe State.reset fun e => { e with state := st, tripInput := true, tripRepeat := 3 }

theorem witness_RoundArithmetic_unconfigured : (unconfigured .unconfigured).cf.config = none ∧ (unconfigured .unconfigured).ViewLaw ∧
    (after .round (unconfigured .unconfigured)).se.state = .unconfigured ∧
    (unconfigured .barred).cf.config = none ∧ (unconfigured .barred).ViewLaw ∧
    (after .round (unconfigured .barred)).se.state = .barred ∧ (unconfigured .unconfigured).se.state = .unconfigured ∧
    (unconfigured .barred).se.state = .barred := by decide

theorem witness_RoundOrdersAndFrames : climbing.cf.config = some park ∧ climbing.cf.config.isSome = true ∧ climbing.se.tripInput = false ∧ 100 ≤ climbing.se.origin ∧
    (withSe climbing fun e => { e with origin := 99 }).se.origin < 100 ∧ (after .round climbing).se.state ≠ .unconfigured ∧
    (after .round climbing).se.state ≠ .barred ∧
    (withSe climbing fun e => { e with tripInput := true, tripRepeat := 2 }).se.tripRepeat < 3 ∧
    3 ≤ (withSe climbing fun e => { e with tripInput := true, tripRepeat := 3 }).se.tripRepeat ∧ climbing.pv.hold = 0 ∧
    0 < (halted vacant).pv.hold := by decide

set_option synthInstance.maxHeartbeats 400000 in
set_option synthInstance.maxSize 4000 in
theorem witness_RoundOrdersAndFrames_law : (withSe climbing fun e => { e with tripInput := true, tripRepeat := 3 }).OutletLaw := by decide

theorem witness_WaterFillBounds : (∀ m ∈ sortMembers rounding, 1 ≤ m.w ∧ 1 ≤ m.q) ∧
    (sortMembers rounding).Pairwise (fun a b => a.q * b.w ≤ b.q * a.w) ∧ (∀ m ∈ rounding, 1 ≤ m.w ∧ 1 ≤ m.q) ∧
    (∀ e ∈ climbing.pv.peers, e.station ≠ 3) := by decide

theorem witness_BandInForce : tariff41.StartsAtZero := by decide

theorem witness_SettledAmount : 155245966815 ≤ 155245966815 ∧ energising.sc.session = some opened := by decide

theorem witness_StepKeepsOutletLaw : (station energising).OutletLaw ∧ (station (metered 35999999)).RangeLaw ∧
    ∃ t, step { station energising with pending := [.plugRemoved .a] } = .next t := ⟨lawful _, by decide, _, rfl⟩

theorem witness_StepKeepsShareLaw : climbing.ShareLaw ∧ ∃ t, step { climbing with pending := [.round] } = .next t :=
  ⟨by decide, _, rfl⟩

theorem witness_StepKeepsViewLaw : climbing.ViewLaw ∧ ∃ t, step { climbing with pending := [.round] } = .next t :=
  ⟨by decide, _, rfl⟩

theorem witness_StepKeepsBillLaw : (station energising).BillLaw ∧
    ∃ t, step { station energising with pending := [.plugRemoved .a] } = .next t := ⟨station_billLaw _ (by decide), _, rfl⟩

set_option synthInstance.maxHeartbeats 400000 in
set_option synthInstance.maxSize 4000 in
/-- A raise in SHARING, and one in the ninth round of ISOLATED. -/
theorem witness_CeilingRisesOnlyByClaim : (climbing.ShareLaw ∧ climbing.se.ceiling < (after .round climbing).se.ceiling) ∧
    (let s := withSe (station { energising with sc := { energising.sc with requested := 4000 } }) fun e =>
       { e with state := .isolated, timer := 8 }
     s.ShareLaw ∧ s.se.ceiling < (after .round s).se.ceiling) := by decide

theorem witness_HeldUntilHardReset : (barred vacant).cf.config.isSome = true ∧ (barred vacant).cf.clockSet = true ∧
    (barred vacant).se.state = .barred ∧ ∃ t, exec (.restart []) (barred vacant) = .next t := ⟨by decide, by decide, by decide, _, rfl⟩

theorem witness_RecordsLeaveByReleaseOnly : billed.sq.queue.map (fun e => e.record.id) = [207] ∧
    billed.LetsIn (.releaseSettlement [0, 207]) 0x51 (bytesOf 2 207) ∧ (after (.releaseSettlement [0, 207]) billed).sq.queue = [] ∧
    ∃ t, exec (.releaseSettlement [0, 207]) billed = .next t :=
  ⟨by decide, .inl ⟨by decide, rfl⟩, by decide, _, rfl⟩

/-- The release that waits behind a response is taken at its end, and the release whose frame is complete at its last byte. -/
theorem witness_RecordsLeaveByReleaseOnly_later :
    (let s := after (.releaseSettlement [0, 207]) (after (.identify []) billed)
     s.LetsIn .responseSent 0x51 (bytesOf 2 207) ∧ (after .responseSent s).sq.queue = []) ∧
    (let frame : List Byte := 0x03 :: 0x51 :: 0x00 :: 207 :: checkBytes [0x03, 0x51, 0x00, 207]
     let s := withPk billed fun k => { k with receiver := .body 3 ((frame.drop 1).take 4) }
     s.LetsIn (.linkByteReceived ((frame.drop 5).headD 0)) 0x51 (bytesOf 2 207) ∧
     (after (.linkByteReceived ((frame.drop 5).headD 0)) s).sq.queue = []) :=
  ⟨⟨.inr (.inr ⟨rfl, ⟨_, rfl⟩, by decide⟩), by decide⟩,
   ⟨.inr (.inl ⟨by decide, 3, _, _, rfl, .inl rfl, by decide⟩), by decide⟩⟩

/-- The counter at its last value. -/
theorem witness_SessionIds : let s := { station vacant with nextId := 65535 }
    1 ≤ s.nextId ∧ s.nextId ≤ 65535 ∧ s.linkFree ∧ (after (.openSession openData) s).nextId = 1 ∧
    (after (.openSession openData) s).outA.sc.session.map SessionRecord.id = some 65535 := by decide

theorem witness_OutletsAreIndependent : (Instr.plugRemoved .a).outletEvent = some .a ∧ Outlet.b ≠ Outlet.a ∧
    ∃ t, exec (.plugRemoved .a) (station energising) = .next t := ⟨rfl, by decide, _, rfl⟩

end Sys2Proof.Tests
end

section
/-! The settled amount of a session (R161): halving up to hundredths, and the amount that the settlement record carries. -/

namespace Sys2Proof.Proofs.Tariffs

open Machine

/-- Halving up in one division: the remainder reaches 5,000 exactly when 5,000 more carries into the quotient. -/
theorem settledAmount_eq_add_half_div (total : Nat) : settledAmount total = (total + 5000) / 10000 := by
  simp only [settledAmount, Config.microPerHundredth, Config.roundUpFrom]
  split <;> omega

theorem settledAmount_monotone : Monotone settledAmount := by
  intro m n h
  simpa only [settledAmount_eq_add_half_div] using Nat.div_le_div_right (Nat.add_le_add_right h 5000)

/-- The largest total of R160 settles to the largest amount of R161. -/
theorem settledAmount_largest_total : settledAmount 155245966815 = 15524597 := by decide

theorem settlementOf_amount (s : State) (r : SessionRecord) : (s.settlementOf r).amount = settledAmount r.total :=
  (settledAmount_eq_add_half_div r.total).symm

theorem settle_queue (s : State) (x : Outlet) (r : SessionRecord) (h : (s.outlet x).sc.session = some r) :
    (s.settle x).sq.queue = s.sq.queue ++ [s.settlementOf r] := by
  obtain ⟨hsq, -, -⟩ := State.settle_spec s x r h
  rw [hsq]

/-- Settles O51: the bound on every amount is monotonicity up to the largest total, and the record at the tail of the queue is
the one that settling appends. -/
theorem settledAmount : Obligations.SettledAmount := by
  refine ⟨fun _ => rfl, fun total h => ?_, settledAmount_largest_total,
    fun s x r h => ⟨settle_queue s x r h, settlementOf_amount s r⟩⟩
  calc Machine.settledAmount total ≤ Machine.settledAmount 155245966815 := settledAmount_monotone h
    _ = 15524597 := settledAmount_largest_total

end Sys2Proof.Proofs.Tariffs
end

section
/-! RELEASE_SETTLEMENT (R172): how a command row is answered on a free link, how a field reads back the bytes of a number, and what
the owner of the settlement queue replies in each case. -/

namespace Sys2Proof.Proofs.SettlementQueue

open Machine

/-! ## A command row on a free link (R182, R185) -/

theorem ofCode_code (c : LinkCommand) : LinkCommand.ofCode c.code = some c := by
  cases c <;> rfl

theorem offerCommand_of_linkFree {s : State} (h : s.linkFree) (code : Byte) (data : List Byte) :
    s.offerCommand code data = s.takeCommand code data := by
  obtain ⟨hcommand, hresponse⟩ := h
  simp [State.offerCommand, State.linkBlocked, State.responseEmpty, hcommand, hresponse]

/-- The owner's reply to a defined command, with the response formed from it. -/
def answeredBy (c : LinkCommand) (reply : Reply) : State :=
  reply.state.answered c.code reply.status.code reply.data

/-- R182: on a free link a defined command is answered with what its owner replies. -/
theorem offerCommand_code_of_linkFree {s : State} (h : s.linkFree) (c : LinkCommand) (data : List Byte) :
    s.offerCommand c.code data = answeredBy c (c.run data s) := by
  rw [offerCommand_of_linkFree h, State.takeCommand, ofCode_code]; rfl

/-! ## Numbers as bytes, most significant byte first -/

@[simp] theorem length_bytesOf (n v : Nat) : (bytesOf n v).length = n := by
  induction n with
  | zero => rfl
  | succ n ih => simp [bytesOf, ih]

/-- Each byte read shifts what was read before it up by one byte. -/
theorem foldl_bytesOf (n v acc : Nat) :
    (bytesOf n v).foldl (fun acc b => acc * 256 + b.toNat) acc = acc * 256 ^ n + v % 256 ^ n := by
  induction n generalizing acc with
  | zero => simp [bytesOf, Nat.mod_one]
  | succ n ih =>
    have digit : (BitVec.ofNat 8 (v / 256 ^ n)).toNat = v / 256 ^ n % 256 := BitVec.toNat_ofNat ..
    rw [bytesOf, List.foldl_cons, ih, digit, Nat.mod_pow_succ, Nat.pow_succ]
    ring

theorem natOfBytes_bytesOf (n v : Nat) : natOfBytes (bytesOf n v) = v % 256 ^ n := by
  simp [natOfBytes, foldl_bytesOf]

theorem field_bytesOf {n v : Nat} (h : v < 256 ^ n) : field (bytesOf n v) 0 n = v := by
  rw [field, List.drop_zero, List.take_of_length_le (length_bytesOf n v).le, natOfBytes_bytesOf, Nat.mod_eq_of_lt h]

/-! ## The owner's reply (R172) -/

section
variable {s : State} {data : List Byte}

theorem releaseSettlementCommand_bad_length (h : data.length ≠ 2) :
    releaseSettlementCommand data s = s.refuse .badArgument := by
  simp [releaseSettlementCommand, h]

theorem releaseSettlementCommand_empty (h : data.length = 2) (hqueue : s.sq.queue = []) :
    releaseSettlementCommand data s = s.refuse .empty := by
  simp [releaseSettlementCommand, h, hqueue]

/-- On a queue with a head only the head's id decides: the records of the rest are not looked at. -/
theorem releaseSettlementCommand_cons {e : SettlementRecord} {rest : List SettlementRecord} (h : data.length = 2)
    (hqueue : s.sq.queue = e :: rest) :
    releaseSettlementCommand data s =
      if field data 0 2 = e.record.id then
        { state := { s with sq := { s.sq with queue := rest } }, status := .ok, data := bytesOf 1 rest.length }
      else { state := s, status := .mismatch, data := bytesOf 2 e.record.id } := by
  simp [releaseSettlementCommand, h, hqueue]

theorem exec_releaseSettlement_of_linkFree (h : s.linkFree) :
    exec (.releaseSettlement data) s = .next (answeredBy .releaseSettlement (releaseSettlementCommand data s)) :=
  congrArg Host.Outcome.next (offerCommand_code_of_linkFree h .releaseSettlement data)

end

theorem settlePending_iff (s : State) : s.settlePending = true ↔ s.sq.queue ≠ [] := by
  simp [State.settlePending]

/-- Settles O43: the reply goes by the length of the data, then by the queue, then by the id given and the head's. -/
theorem releaseSettlement : Obligations.ReleaseSettlement := by
  intro s data hfree
  rw [exec_releaseSettlement_of_linkFree hfree]
  refine ⟨fun hlength => ?_, fun id hid hdata => ?_⟩
  · rw [releaseSettlementCommand_bad_length hlength]; rfl
  · have hlength : data.length = 2 := by rw [hdata, length_bytesOf]
    have hfield : field data 0 2 = id := by rw [hdata, field_bytesOf hid]
    refine ⟨fun hempty => ?_, fun e rest hqueue => ?_⟩
    · rw [releaseSettlementCommand_empty hlength hempty]; rfl
    · rw [releaseSettlementCommand_cons hlength hqueue, hfield]
      refine ⟨fun hhead => ⟨?_, settlePending_iff _⟩, fun hother => ?_⟩
      · rw [if_pos hhead]; rfl
      · rw [if_neg hother]; rfl

end Sys2Proof.Proofs.SettlementQueue
end

section
/-! CLEAR_CAUSES (R188) and SET_MASK (R189): the bits of the pending set, what ATTENTION follows, how the two bytes of a set of causes
are read, and what the pedestal link replies in each case. -/

namespace Sys2Proof.Proofs.AttentionCauses

open Machine SettlementQueue

/-! ## The pending set and ATTENTION (R186, R187) -/

theorem getLsbD_pendingSet_zero (s : State) : s.pendingSet.getLsbD 0 = s.settlePending := by
  cases h : s.settlePending <;> simp [State.pendingSet, h]

theorem isPending_raise_same (s : State) (c : Cause) : (s.raise c).isPending c = true := by
  have inRange : c.index < 9 := by cases c <;> decide
  simp [State.isPending, inRange]

theorem ne_zero_iff_exists_getLsbD {w : Nat} (x : BitVec w) : x ≠ 0#w ↔ ∃ i, i < w ∧ x.getLsbD i = true := by
  simp [BitVec.eq_of_getLsbD_eq_iff]

/-- ATTENTION looks at the common bits of the pending set and the mask, one by one. -/
theorem attention_iff (s : State) :
    s.attention = true ↔ ∃ i, i < 10 ∧ s.pendingSet.getLsbD i = true ∧ s.pk.mask.getLsbD i = true := by
  simp only [State.attention, bne_iff_ne, ne_zero_iff_exists_getLsbD, BitVec.getLsbD_and, Bool.and_eq_true]

/-! ## Clearing the named edge causes (R188) -/

/-- The state with the edge causes of the set cleared: bit 0 of the set, SETTLE_PENDING, has no edge flag. -/
def cleared (s : State) (named : BitVec 10) : State :=
  { s with pk := { s.pk with edge := s.pk.edge &&& ~~~((named >>> 1).setWidth 9) } }

theorem isPending_cleared (s : State) (named : BitVec 10) (c : Cause) :
    (cleared s named).isPending c = (s.isPending c && !named.getLsbD (c.index + 1)) := by
  have inRange : c.index < 9 := by cases c <;> decide
  simp [State.isPending, cleared, inRange, Nat.add_comm]

/-! ## A set of causes as two bytes (R188, R189) -/

theorem readCauses_bad_length {data : List Byte} (h : data.length ≠ 2) : readCauses data = none := by
  simp [readCauses, h]

theorem readCauses_bit_above_nine {v : Nat} (hbit : 1024 ≤ v) (hv : v < 65536) : readCauses (bytesOf 2 v) = none := by
  have hfield : field (bytesOf 2 v) 0 2 = v := field_bytesOf hv
  simp [readCauses, hfield, Nat.not_lt.mpr hbit]

theorem readCauses_bytesOf (causes : BitVec 10) : readCauses (bytesOf 2 causes.toNat) = some causes := by
  have hlt : causes.toNat < 1024 := causes.isLt
  have hfield : field (bytesOf 2 causes.toNat) 0 2 = causes.toNat := field_bytesOf (by omega)
  simp [readCauses, hfield, hlt]

/-! ## The link's replies -/

section
variable {s : State} {data : List Byte}

theorem clearCausesCommand_unread (h : readCauses data = none) : clearCausesCommand data s = s.refuse .badArgument := by
  simp [clearCausesCommand, h]

theorem clearCausesCommand_read {named : BitVec 10} (h : readCauses data = some named) :
    clearCausesCommand data s =
      { state := cleared s named, status := .ok, data := bytesOf 2 (cleared s named).pendingSet.toNat } := by
  simp [clearCausesCommand, h, cleared]

theorem exec_clearCauses_of_linkFree (h : s.linkFree) :
    exec (.clearCauses data) s = .next (answeredBy .clearCauses (clearCausesCommand data s)) :=
  congrArg Host.Outcome.next (offerCommand_code_of_linkFree h .clearCauses data)

theorem exec_clearCauses_unread (hfree : s.linkFree) (h : readCauses data = none) :
    exec (.clearCauses data) s = .next (s.answered 0x61 0x02 []) := by
  rw [exec_clearCauses_of_linkFree hfree, clearCausesCommand_unread h]; rfl

theorem setMaskCommand_unread (h : readCauses data = none) : setMaskCommand data s = s.refuse .badArgument := by
  simp [setMaskCommand, h]

theorem setMaskCommand_read {mask : BitVec 10} (h : readCauses data = some mask) :
    setMaskCommand data s =
      { state := { s with pk := { s.pk with mask := mask } }, status := .ok, data := bytesOf 2 s.pendingSet.toNat } := by
  simp [setMaskCommand, h]

theorem exec_setMask_of_linkFree (h : s.linkFree) :
    exec (.setMask data) s = .next (answeredBy .setMask (setMaskCommand data s)) :=
  congrArg Host.Outcome.next (offerCommand_code_of_linkFree h .setMask data)

theorem exec_setMask_unread (hfree : s.linkFree) (h : readCauses data = none) :
    exec (.setMask data) s = .next (s.answered 0x62 0x02 []) := by
  rw [exec_setMask_of_linkFree hfree, setMaskCommand_unread h]; rfl

end

/-- Settles O44: data that gives no set of causes is refused, and a set that is read clears its edge causes alone, so that bit 0 stays
as the queue gives it and a cause raised afterwards is pending. -/
theorem clearCauses : Obligations.ClearCauses := by
  intro s data hfree
  refine ⟨fun hlength => exec_clearCauses_unread hfree (readCauses_bad_length hlength),
    fun v hbit hv => exec_clearCauses_unread hfree (readCauses_bit_above_nine hbit hv),
    fun named => ⟨cleared s named, ?_, rfl, isPending_cleared s named, getLsbD_pendingSet_zero _, isPending_raise_same _⟩⟩
  rw [exec_clearCauses_of_linkFree hfree, clearCausesCommand_read (readCauses_bytesOf named)]; rfl

/-- Settles O45: data that gives no set of causes is refused, and the mask that is read decides ATTENTION with the pending set, which it
leaves as it was. -/
theorem setMask : Obligations.SetMask := by
  intro s data hfree
  refine ⟨fun hlength => exec_setMask_unread hfree (readCauses_bad_length hlength),
    fun v hbit hv => exec_setMask_unread hfree (readCauses_bit_above_nine hbit hv),
    fun mask => ⟨_, rfl, ?_, attention_iff _⟩⟩
  rw [exec_setMask_of_linkFree hfree, setMaskCommand_read (readCauses_bytesOf mask)]; rfl

end Sys2Proof.Proofs.AttentionCauses
end

section
/-! IDENTIFY (R196): the byte in which it reports the straps, and what the pedestal link replies in each case. -/

namespace Sys2Proof.Proofs.Identification

open Machine SettlementQueue

/-! ## The straps as one byte (R193, R196) -/

/-- Bits 0 and 1 of the byte. -/
def rateBits : LineRate → Byte
  | .low => 0
  | .middle => 1
  | .high => 2

/-- Bit 2 of the byte. -/
def sourceBits : BillingSource → Byte
  | .sample => 0
  | .pulse => 4

/-- The straps but for the station number, each in bits of its own. -/
def strapsByte (p : Straps) : Byte :=
  rateBits p.rate ||| sourceBits p.source ||| if p.twoOutlets then 8 else 0

/-- The straps share no bit, so the sum that the model forms is their union. -/
theorem ofNat_strapsSum (p : Straps) :
    BitVec.ofNat 8 (p.rate.code + (if p.source = .pulse then 4 else 0) + if p.twoOutlets then 8 else 0) = strapsByte p := by
  obtain ⟨station, rate, source, twoOutlets⟩ := p
  cases rate <;> cases source <;> cases twoOutlets <;> simp [LineRate.code, strapsByte, rateBits, sourceBits]

theorem bytesOf_one (v : Nat) : bytesOf 1 v = [BitVec.ofNat 8 v] := by
  simp [bytesOf]

theorem bytesOf_ownStation (s : State) : bytesOf 1 s.ownStation = [s.cf.straps.station.setWidth 8] := by
  rw [bytesOf_one, State.ownStation, BitVec.ofNat_toNat]

theorem rate_ofPins_three {p : StrapPins} (h : p.rate = 3) : (Straps.ofPins p).rate = .middle := by
  rw [Straps.ofPins, h]; rfl

/-! ## The link's replies (R196) -/

theorem identifyCommand_data {data : List Byte} (h : data ≠ []) (s : State) : identifyCommand data s = s.refuse .badArgument :=
  if_pos h

theorem identifyCommand_nil (s : State) :
    identifyCommand [] s =
      { state := s, status := .ok, data := [0x04, 0x18, 0x01, s.cf.straps.station.setWidth 8, strapsByte s.cf.straps] } := by
  have partCode : bytesOf 2 Config.partCode = [0x04, 0x18] := rfl
  have revision : bytesOf 1 Config.revision = [0x01] := rfl
  rw [identifyCommand, if_neg (not_not_intro rfl), partCode, revision, bytesOf_ownStation, bytesOf_one, ofNat_strapsSum]; rfl

theorem exec_identify_of_linkFree {s : State} (h : s.linkFree) (data : List Byte) :
    exec (.identify data) s = .next (answeredBy .identify (identifyCommand data s)) :=
  congrArg Host.Outcome.next (offerCommand_code_of_linkFree h .identify data)

/-- Settles O32: data is refused, and without data the reply is the identity as five bytes, from the state as it is: neither reply looks
at the share state or at the configuration. -/
theorem identify : Obligations.Identify := by
  intro s data hfree
  refine ⟨fun hdata => ?_, ?_, fun p => rate_ofPins_three⟩
  · rw [exec_identify_of_linkFree hfree, identifyCommand_data hdata]; rfl
  · rw [exec_identify_of_linkFree hfree, identifyCommand_nil]; rfl

end Sys2Proof.Proofs.Identification
end

section
/-! What the shared operations of one outlet give, record by record, and what none of them can do: they keep the other blocks and the
other outlet, take no record from the settlement queue, lose no session without settling it and keep the meter unit in its ranges. -/

namespace Sys2Proof.Proofs.OutletOperations

open Machine

/-! ## What an operation gives in each record -/

section
variable (s : State) (x : Outlet)

@[simp] theorem modSession_sc (f : SessionRecord → SessionRecord) :
    ((s.modSession x f).outlet x).sc = { (s.outlet x).sc with session := (s.outlet x).sc.session.map f } := by
  simp [State.modSession]

@[simp] theorem modFlags_sc (f : SessionFlags → SessionFlags) :
    ((s.modFlags x f).outlet x).sc =
      { (s.outlet x).sc with session := (s.outlet x).sc.session.map fun r => { r with flags := f r.flags } } := by
  simp [State.modFlags]

@[simp] theorem endWith_sc (reason : Nat) :
    ((s.endWith x reason).outlet x).sc =
      { (s.outlet x).sc with session := (s.outlet x).sc.session.map fun r => { r with endReason := some reason } } := by
  simp [State.endWith]

@[simp] theorem enter_sc (st : OutletState) : ((s.enter x st).outlet x).sc = { (s.outlet x).sc with state := st } :=
  (s.enter_spec x st).1

theorem enter_mu (st : OutletState) :
    ((s.enter x st).outlet x).mu = if (s.outlet x).sc.state = st then (s.outlet x).mu
      else { (s.outlet x).mu with silenceTimer := decide (st = .energising) } := by
  by_cases h : (s.outlet x).sc.state = st
  · rw [if_pos h, (s.enter_spec x st).2.2 h]
  · rw [if_neg h, ((s.enter_spec x st).2.1 h).1]

@[simp] theorem enter_ts (st : OutletState) : (s.enter x st).ts = s.ts := (s.enter_frame x st).2.2.2.2.2.2.2.1

@[simp] theorem enter_sq (st : OutletState) : (s.enter x st).sq = s.sq := (s.enter_frame x st).2.2.2.2.2.2.2.2.1

theorem order_zero_sp : ((s.order x 0).outlet x).sp = (s.outlet x).sp.orderedZero := by
  unfold StageOutlet.orderedZero
  split
  · next h => rw [(s.order_spec x 0).1 h.symm]
  · next h => exact ((s.order_spec x 0).2 (Ne.symm h)).1

theorem order_zero_stageTx : (s.order x 0).stageTx = s.setpointsAfterZero x := by
  unfold State.setpointsAfterZero
  split
  · next h => rw [(s.order_spec x 0).1 h.symm]
  · next h => exact ((s.order_spec x 0).2 (Ne.symm h)).2

@[simp] theorem settleRecord_sc : ((s.settleRecord x).outlet x).sc = (s.outlet x).sc.afterSettling := by
  unfold State.settleRecord; cases (s.outlet x).sc.session <;> cases x <;> rfl

@[simp] theorem settleRecord_mu : ((s.settleRecord x).outlet x).mu = (s.outlet x).mu.closeWindow := by
  unfold State.settleRecord; cases (s.outlet x).sc.session <;> cases x <;> rfl

@[simp] theorem commandClose_same_sc : ((s.commandClose x).outlet x).sc = (s.outlet x).sc := s.commandClose_sc x x

end

/-! ## What the outlets' work keeps -/

/-- Work at the outlets: no block but the stage port, the meter unit, the session controller, the tariff banks, the settlement queue
and the attention causes is touched, no queued record leaves its place, no session is lost without a record of its id, and the meter
records stay in their ranges. -/
structure OutletsWork (s t : State) : Prop where
  cf : t.cf = s.cf
  li : t.li = s.li
  pv : t.pv = s.pv
  se : t.se = s.se
  estop : t.estop = s.estop
  nextId : t.nextId = s.nextId
  pending : t.pending = s.pending
  pk : t.pk = { s.pk with edge := t.pk.edge }
  queue : s.sq.queue <+: t.sq.queue
  session : ∀ x r, (s.outlet x).sc.session = some r →
    (∃ r', (t.outlet x).sc.session = some r' ∧ r'.id = r.id) ∨ ∃ e ∈ t.sq.queue, e.record.id = r.id
  range : ∀ x, (s.outlet x).mu.InRange → (t.outlet x).mu.InRange

/-- The work of one outlet leaves the other alone. -/
structure OutletWork (x : Outlet) (s t : State) : Prop extends OutletsWork s t where
  other : ∀ y, y ≠ x → t.outlet y = s.outlet y

theorem OutletsWork.refl (s : State) : OutletsWork s s :=
  ⟨rfl, rfl, rfl, rfl, rfl, rfl, rfl, rfl, List.prefix_rfl, fun _ r h => .inl ⟨r, h, rfl⟩, fun _ h => h⟩

theorem OutletsWork.trans {s t u : State} (h : OutletsWork s t) (g : OutletsWork t u) : OutletsWork s u where
  cf := g.cf.trans h.cf
  li := g.li.trans h.li
  pv := g.pv.trans h.pv
  se := g.se.trans h.se
  estop := g.estop.trans h.estop
  nextId := g.nextId.trans h.nextId
  pending := g.pending.trans h.pending
  pk := by rw [g.pk, h.pk]
  queue := h.queue.trans g.queue
  session x r hr := by
    obtain ⟨r', hr', id'⟩ | ⟨e, he, ide⟩ := h.session x r hr
    · rw [← id']; exact g.session x r' hr'
    · exact .inr ⟨e, g.queue.subset he, ide⟩
  range x hx := g.range x (h.range x hx)

theorem OutletWork.refl (x : Outlet) (s : State) : OutletWork x s s := ⟨.refl s, fun _ _ => rfl⟩

theorem OutletWork.trans {x : Outlet} {s t u : State} (h : OutletWork x s t) (g : OutletWork x t u) : OutletWork x s u :=
  ⟨h.toOutletsWork.trans g.toOutletsWork, fun y hy => (g.other y hy).trans (h.other y hy)⟩

/-- A state is known by its fields: the frame of an outlet's work as one equation. -/
theorem OutletsWork.eq {s t : State} (h : OutletsWork s t) :
    t = { s with outA := t.outA, outB := t.outB, stageTx := t.stageTx, ts := t.ts, sq := t.sq,
                 pk := { s.pk with edge := t.pk.edge } } := by
  obtain ⟨hcf, hli, hpv, hse, hestop, hnext, hpending, hpk, -, -, -⟩ := h
  cases t; cases s
  subst hcf hli hpv hse hestop hnext hpending
  congr 1

theorem OutletWork.onlyOutlet {x : Outlet} {s t : State} (h : OutletWork x s t) : OnlyOutlet s t x :=
  ⟨h.other, h.toOutletsWork.eq⟩

/-! ## The work of each operation -/

section
variable (s : State) (x : Outlet)

theorem setOutlet_work (o : OutletRecord)
    (hs : ∀ r, (s.outlet x).sc.session = some r → ∃ r', o.sc.session = some r' ∧ r'.id = r.id)
    (hr : (s.outlet x).mu.InRange → o.mu.InRange) : OutletWork x s (s.setOutlet x o) := by
  obtain ⟨hcf, hli, hpv, hse, hestop, htx, hnext, hts, hsq, hpk, hpending⟩ := s.setOutlet_frame x o
  refine ⟨⟨hcf, hli, hpv, hse, hestop, hnext, hpending, by rw [hpk], by rw [hsq], fun y r h => ?_, fun y h => ?_⟩,
    fun y => s.setOutlet_other x y o⟩
  · by_cases hy : y = x
    · subst hy; rw [State.setOutlet_same]; exact .inl (hs r h)
    · rw [s.setOutlet_other x y o hy]; exact .inl ⟨r, h, rfl⟩
  · by_cases hy : y = x
    · subst hy; rw [State.setOutlet_same]; exact hr h
    · rw [s.setOutlet_other x y o hy]; exact h

theorem modSp_work (f : StageOutlet → StageOutlet) : OutletWork x s (s.modSp x f) :=
  setOutlet_work s x _ (fun r h => ⟨r, h, rfl⟩) id

theorem modMu_work (f : MeterOutlet → MeterOutlet) (h : (s.outlet x).mu.InRange → (f (s.outlet x).mu).InRange) :
    OutletWork x s (s.modMu x f) :=
  setOutlet_work s x _ (fun r h => ⟨r, h, rfl⟩) h

/-- What SC changes in its record beside the session. -/
theorem modSc_work (f : SessionOutlet → SessionOutlet) (h : ∀ c, (f c).session = c.session) : OutletWork x s (s.modSc x f) :=
  setOutlet_work s x _ (fun r hr => ⟨r, (h _).trans hr, rfl⟩) id

theorem modSession_work (f : SessionRecord → SessionRecord) (h : ∀ r, (f r).id = r.id) : OutletWork x s (s.modSession x f) :=
  setOutlet_work s x _ (fun r hr => ⟨f r, by simp [hr], h r⟩) id

theorem modFlags_work (f : SessionFlags → SessionFlags) : OutletWork x s (s.modFlags x f) :=
  modSession_work s x _ fun _ => rfl

theorem endWith_work (reason : Nat) : OutletWork x s (s.endWith x reason) := modSession_work s x _ fun _ => rfl

theorem raise_work (c : Cause) : OutletWork x s (s.raise c) :=
  ⟨⟨rfl, rfl, rfl, rfl, rfl, rfl, rfl, rfl, List.prefix_rfl,
    fun y r h => .inl ⟨r, by rwa [s.raise_outlet], rfl⟩, fun y h => by rwa [s.raise_outlet]⟩, fun y _ => s.raise_outlet y c⟩

theorem stageTx_work (v : List Setpoint) : OutletWork x s { s with stageTx := v } :=
  ⟨⟨rfl, rfl, rfl, rfl, rfl, rfl, rfl, rfl, List.prefix_rfl,
    fun y r h => .inl ⟨r, by rwa [s.outlet_with_stageTx], rfl⟩, fun y h => by rwa [s.outlet_with_stageTx]⟩,
    fun y _ => s.outlet_with_stageTx y v⟩

theorem order_work (v : Nat) : OutletWork x s (s.order x v) := by
  unfold State.order
  split
  · exact .refl x s
  · exact (modSp_work s x _).trans (stageTx_work _ x _)

theorem enter_work (st : OutletState) : OutletWork x s (s.enter x st) := by
  unfold State.enter
  split
  · exact .refl x s
  · exact ((modSc_work s x _ (by intro; rfl)).trans (modMu_work _ x _ id)).trans (raise_work _ x _)

theorem closeWindow_inRange {m : MeterOutlet} (_ : m.InRange) : m.closeWindow.InRange := by
  simp [MeterOutlet.InRange, MeterOutlet.closeWindow]

/-- Settling is the one operation that ends a session, and its record is then the queue's tail. -/
theorem settleRecord_work : OutletWork x s (s.settleRecord x) := by
  obtain ⟨hcf, hli, hpv, hse, hestop, htx, hnext, hpk, hpending⟩ := s.settleRecord_frame x
  have queue : s.sq.queue <+: (s.settleRecord x).sq.queue := by
    unfold State.settleRecord
    cases (s.outlet x).sc.session with
    | none => simp
    | some r => exact List.prefix_append _ _
  refine ⟨⟨hcf, hli, hpv, hse, hestop, hnext, hpending, by rw [hpk], queue, fun y r h => ?_, fun y h => ?_⟩,
    fun y => s.settleRecord_other x y⟩
  · by_cases hy : y = x
    · subst hy
      refine .inr ⟨{ record := r.complete s.cf.day s.cf.second, amount := settledAmount (r.complete s.cf.day s.cf.second).total }, ?_, rfl⟩
      simp [State.settleRecord, h, SettlementQueue.append]
    · rw [s.settleRecord_other x y hy]; exact .inl ⟨r, h, rfl⟩
  · by_cases hy : y = x
    · subst hy; rw [settleRecord_mu]; exact closeWindow_inRange h
    · rw [s.settleRecord_other x y hy]; exact h

theorem settle_work : OutletWork x s (s.settle x) := (settleRecord_work s x).trans (enter_work _ x _)

theorem leaveClosing_work : OutletWork x s (s.leaveClosing x) := by
  unfold State.leaveClosing
  split
  · exact settle_work s x
  · split
    · exact (enter_work s x _).trans (modSc_work _ x _ (by intro; rfl))
    · exact settle_work s x

theorem contactorOpened_work : OutletWork x s (s.contactorOpened x) := by
  unfold State.contactorOpened
  split
  case h_1 =>
    split
    · exact leaveClosing_work s x
    · exact .refl x s
  case h_2 =>
    split
    · exact settle_work s x
    · split
      · exact .refl x s
      · exact enter_work s x _
  all_goals exact .refl x s

theorem commandOpen_work : OutletWork x s (s.commandOpen x) := by
  refine (order_work s x 0).trans ?_
  unfold State.commandOpen
  dsimp only
  generalize s.order x 0 = t
  have opened : ∀ f, OutletWork x t ((t.modSp x f).contactorOpened x) := fun f =>
    (modSp_work t x f).trans (contactorOpened_work _ x)
  split
  · split
    · exact modSp_work t x _
    · exact opened _
  · split
    · exact modSp_work t x _
    · exact opened _
  · exact modSp_work t x _
  · exact opened _
  · exact .refl x t

theorem commandClose_work : OutletWork x s (s.commandClose x) := by
  unfold State.commandClose
  split
  · exact modSp_work s x _
  · exact modSp_work s x _
  all_goals exact .refl x s

theorem openStep_work : OutletWork x s (s.openStep x) :=
  (modSc_work s x _ (by intro; rfl)).trans (commandOpen_work _ x)

theorem endRampDown_work : OutletWork x s (s.endRampDown x) := by
  unfold State.endRampDown
  split
  · exact openStep_work s x
  · exact .refl x s

theorem openConfirmed_work : OutletWork x s (s.openConfirmed x) := by
  refine ((modSp_work s x fun o => { o.confirmOpen with pendingClose := false }).trans (contactorOpened_work _ x)).trans ?_
  unfold State.openConfirmed
  dsimp only
  generalize (s.modSp x fun o => { o.confirmOpen with pendingClose := false }).contactorOpened x = t
  have ended : OutletWork x t (if (s.outlet x).sp.isConfirmed = false ∧ (s.outlet x).sp.ordered = 0 then t.endRampDown x else t) := by
    split
    · exact endRampDown_work t x
    · exact .refl x t
  by_cases h : (s.outlet x).sp.pendingClose = true
  · rw [if_pos h]; exact ended.trans (commandClose_work _ x)
  · rw [if_neg h]; exact ended

theorem ordinaryStop_work (reason : Nat) : OutletWork x s (s.ordinaryStop x reason) := by
  refine ((((((endWith_work s x reason).trans (modSc_work _ x (fun c => { c with step := .rampDown }) fun _ => rfl)).trans
    (enter_work _ x .closing)).trans (order_work _ x 0)).trans (modSp_work _ x fun o => { o with pendingClose := false }))).trans ?_
  unfold State.ordinaryStop
  dsimp only
  split
  · exact openStep_work _ x
  · exact .refl x _

theorem quickStop_work (reason : Nat) : OutletWork x s (s.quickStop x reason) :=
  (((endWith_work s x reason).trans (enter_work _ x _)).trans (order_work _ x 0)).trans (openStep_work _ x)

theorem endAndSettle_work (reason : Nat) : OutletWork x s (s.endAndSettle x reason) :=
  (endWith_work s x reason).trans (settle_work _ x)

theorem connect_work : OutletWork x s (s.connect x) := by
  unfold State.connect
  split
  · exact ordinaryStop_work s x _
  · exact (enter_work s x _).trans (commandClose_work _ x)

theorem weldSuspect_work : OutletWork x s (s.weldSuspect x) := by
  unfold State.weldSuspect
  dsimp only
  refine .trans (t := match (s.outlet x).sc.state with
    | .awaitPlug => s.endWith x EndReason.contactorFault
    | .connecting => s.endWith x EndReason.contactorFault
    | .energising => (s.endWith x EndReason.contactorFault).order x 0
    | .suspended => s.endWith x EndReason.contactorFault
    | .closing => s
    | .idle => s
    | .outOfService => s
    | .vacant => s) ?_ (((modFlags_work _ x _).trans (settleRecord_work _ x)).trans (enter_work _ x _))
  split
  case h_3 => exact (endWith_work s x _).trans (order_work _ x 0)
  all_goals first | exact endWith_work s x _ | exact .refl x s

theorem weld_work : OutletWork x s (s.weld x) := (modSp_work s x _).trans (weldSuspect_work _ x)

theorem testCaps_work : OutletWork x s (s.testCaps x) := by
  unfold State.testCaps
  split
  · split
    · exact ordinaryStop_work s x _
    · exact .refl x s
  · exact .refl x s

theorem deliver_work (wh minute : Nat) : OutletWork x s (s.deliver x wh minute) := by
  unfold State.deliver
  split
  · exact .refl x s
  · dsimp only
    split
    · exact testCaps_work s x
    · split
      · exact (modSession_work s x _ (by intro; rfl)).trans (ordinaryStop_work _ x _)
      · exact (modSession_work s x _ (by intro; rfl)).trans (testCaps_work _ x)

theorem suspend_work : OutletWork x s (s.suspend x) := by
  have suspended : OutletWork x s (((s.enter x .suspended).modFlags x fun f => { f with halted := true }).commandOpen x) :=
    ((enter_work s x _).trans (modFlags_work _ x _)).trans (commandOpen_work _ x)
  unfold State.suspend
  split
  · exact suspended
  · exact suspended
  all_goals exact .refl x s

theorem resume_work : OutletWork x s (s.resume x) := by
  unfold State.resume
  split
  · exact connect_work s x
  · exact .refl x s

theorem clashOutlet_work : OutletWork x s (s.clashOutlet x) := by
  unfold State.clashOutlet
  split
  · exact quickStop_work s x _
  · exact quickStop_work s x _
  · exact quickStop_work s x _
  · exact (endWith_work s x _).trans (endRampDown_work _ x)
  · exact endAndSettle_work s x _
  · exact endAndSettle_work s x _
  · exact .refl x s
  · exact .refl x s

end

end Sys2Proof.Proofs.OutletOperations
end

section
/-! What an event of the pedestal link can do (R180 to R183): it changes the link alone, or one command is let in and its owner's reply
is formed. The receiver, the buffers and HOLD case by case. -/

namespace Sys2Proof.Proofs.PedestalLink

open Machine SettlementQueue

/-! ## Taking a command (R181, R182) -/

theorem code_of_ofCode {code : Byte} {cmd : LinkCommand} (h : LinkCommand.ofCode code = some cmd) : cmd.code = code := by
  simpa using List.find?_some h

theorem linkBlocked_iff (s : State) : s.linkBlocked = true ↔ s.pk.command ≠ .empty ∨ ∃ r, s.pk.response = .held r := by
  unfold State.linkBlocked
  cases s.pk.command <;> cases s.pk.response <;> simp

theorem linkFree_of_offered {s : State} (h : s.linkBlocked = false ∧ s.responseEmpty = true) : s.linkFree := by
  obtain ⟨hblocked, hempty⟩ := h
  refine ⟨?_, by simpa [State.responseEmpty] using hempty⟩
  by_contra hcommand
  rw [(linkBlocked_iff s).2 (.inl hcommand)] at hblocked
  cases hblocked

theorem letWait_pk (s : State) (due : CommandBuffer) : ∃ p, s.letWait due = { s with pk := p } := by
  unfold State.letWait; split <;> exact ⟨_, rfl⟩

theorem offerBadFrame_pk (s : State) (code : Byte) : ∃ p, s.offerBadFrame code = { s with pk := p } := by
  unfold State.offerBadFrame
  split
  · exact ⟨_, rfl⟩
  · exact letWait_pk s _

theorem takeCommand_undefined {s : State} {code : Byte} (h : LinkCommand.ofCode code = none) (data : List Byte) :
    s.takeCommand code data = s.answered code 0x0D [] := by
  rw [State.takeCommand, h]; rfl

theorem takeCommand_defined {s : State} {code : Byte} {cmd : LinkCommand} (h : LinkCommand.ofCode code = some cmd) (data : List Byte) :
    s.takeCommand code data = answeredBy cmd (cmd.run data s) := by
  rw [State.takeCommand, h, ← code_of_ofCode h]; rfl

/-- A command offered is discarded, waits or is answered as undefined, each in the link alone; or its owner replies. -/
theorem offerCommand_cases (s : State) (code : Byte) (data : List Byte) :
    (∃ p, s.offerCommand code data = { s with pk := p }) ∨
      s.linkFree ∧ ∃ cmd : LinkCommand, cmd.code = code ∧ s.offerCommand code data = answeredBy cmd (cmd.run data s) := by
  unfold State.offerCommand
  split
  · next h =>
    cases hcode : LinkCommand.ofCode code with
    | none => rw [takeCommand_undefined hcode]; exact .inl ⟨_, rfl⟩
    | some cmd => exact .inr ⟨linkFree_of_offered h, cmd, code_of_ofCode hcode, takeCommand_defined hcode data⟩
  · exact .inl (letWait_pk s _)

theorem exec_commandFrame {c : Instr} {code : Byte} {data : List Byte} (h : c.commandFrame = some (code, data)) (s : State) :
    exec c s = .next (s.offerCommand code data) := by
  cases c <;> cases h <;> rfl

/-! ## The byte that completes a frame (R179, R180) -/

theorem length_checkBytes (bs : List Byte) : (checkBytes bs).length = 2 := length_bytesOf 2 _

/-- A frame with a good check and a command code other than 0 is that code, its data and their check. -/
theorem frameOutcome_command {length code : Byte} {now data : List Byte} (h : frameOutcome length now = .command code data)
    (hcode : code ≠ 0) : now = code :: data ++ checkBytes (length :: code :: data) := by
  unfold frameOutcome at h
  dsimp only at h
  split at h
  · next hcheck =>
    injection h with hhead htail
    have covered : now.take length.toNat = code :: data := by
      cases hnow : now.take length.toNat with
      | nil => rw [hnow] at hhead; exact absurd hhead.symm hcode
      | cons b rest => rw [hnow] at hhead htail; simp_all
    rw [← List.take_append_drop length.toNat now, ← hcheck, covered]
  · cases h

theorem code_ne_zero (cmd : LinkCommand) : cmd.code ≠ 0 := by cases cmd <;> decide

section
variable {s : State} {b : Byte} {r : Receiver}

theorem receiveByte_nothing (h : s.pk.receiver.afterByte b = (r, .empty)) : s.receiveByte b = s.receiverTo r := by
  rw [State.receiveByte, h]

theorem receiveByte_command {code : Byte} {data : List Byte} (h : s.pk.receiver.afterByte b = (r, .command code data)) :
    s.receiveByte b = (s.receiverTo r).offerCommand code data := by
  rw [State.receiveByte, h]

theorem receiveByte_badFrame {code : Byte} (h : s.pk.receiver.afterByte b = (r, .badFrame code)) :
    s.receiveByte b = (s.receiverTo r).offerBadFrame code := by
  rw [State.receiveByte, h]

/-- A command falls due at the last byte of a frame only. -/
theorem receiver_of_command_due {code : Byte} {data : List Byte} (h : s.pk.receiver.afterByte b = (r, .command code data)) :
    r = .hunt ∧ ∃ length kept, s.pk.receiver = .body length kept ∧ frameOutcome length (kept ++ [b]) = .command code data := by
  unfold Receiver.afterByte at h
  split at h
  · cases h
  · split at h <;> cases h
  · next length kept hreceiver =>
    dsimp only at h
    split at h
    · injection h with hr hdue; exact ⟨hr.symm, length, kept, hreceiver, hdue⟩
    · cases h
  · cases h

end

/-- A byte on the link changes the link alone, or completes the frame of one command, which is taken at once on a free link. -/
theorem receiveByte_cases (s : State) (b : Byte) :
    (∃ p, s.receiveByte b = { s with pk := p }) ∨
      s.linkFree ∧ ∃ length kept data, ∃ cmd : LinkCommand, s.pk.receiver = .body length kept ∧
        kept ++ [b] = cmd.code :: data ++ checkBytes (length :: cmd.code :: data) ∧
        s.receiveByte b = answeredBy cmd (cmd.run data (s.receiverTo .hunt)) := by
  rcases hdue : s.pk.receiver.afterByte b with ⟨r, due⟩
  cases due with
  | empty => rw [receiveByte_nothing hdue]; exact .inl ⟨_, rfl⟩
  | badFrame code => rw [receiveByte_badFrame hdue]; exact .inl (offerBadFrame_pk (s.receiverTo r) code)
  | command code data =>
    obtain ⟨rfl, length, kept, hreceiver, hframe⟩ := receiver_of_command_due hdue
    rw [receiveByte_command hdue]
    obtain ⟨p, hp⟩ | ⟨hfree, cmd, rfl, hrun⟩ := offerCommand_cases (s.receiverTo .hunt) code data
    · exact .inl ⟨p, hp⟩
    · exact .inr ⟨hfree, length, kept, data, cmd, hreceiver, frameOutcome_command hframe (code_ne_zero cmd), hrun⟩

/-! ## What a step of the link can do -/

/-- The rows of the pedestal link: the command rows and the events of its receiver, its response buffer and HOLD. -/
def isLinkRow (c : Instr) : Bool :=
  c.commandFrame.isSome || match c with
    | .commandFrameComplete _ => true
    | .linkBadLength _ => true
    | .linkStopBitError => true
    | .linkGapTimeout => true
    | .responseSent => true
    | .holdReleased => true
    | .holdAsserted => true
    | .linkByteReceived _ => true
    | _ => false

/-- A step of the link: the link alone changes, or a command is let in on a link that is then free, and its owner replies. -/
inductive LinkStep (s : State) (c : Instr) : State → Prop
  | stays (p : Machine.PedestalLink) : LinkStep s c { s with pk := p }
  | takes (cmd : LinkCommand) (data : List Byte) (p : Machine.PedestalLink) (letsIn : s.LetsIn c cmd.code data)
      (command : p.command = .empty) (response : p.response = .empty) (hold : p.hold = s.pk.hold) :
      LinkStep s c (answeredBy cmd (cmd.run data { s with pk := p }))

theorem receiveByte_linkStep (s : State) {c : Instr} {b : Byte} (h : c = .linkByteReceived b ∨ c = .commandFrameComplete b) :
    LinkStep s c (s.receiveByte b) := by
  obtain ⟨p, hp⟩ | ⟨hfree, length, kept, data, cmd, hreceiver, hframe, hrun⟩ := receiveByte_cases s b
  · rw [hp]; exact .stays p
  · rw [hrun]
    exact .takes cmd data _ (.inr (.inl ⟨hfree, length, kept, b, hreceiver, h, hframe⟩)) hfree.1 hfree.2 rfl

theorem takeWaiting_linkStep (s : State) (h : ∃ r, s.pk.response = .sending r) : LinkStep s .responseSent s.takeWaiting := by
  unfold State.takeWaiting
  dsimp only
  split
  · exact .stays _
  · next code data hcommand =>
    cases hcode : LinkCommand.ofCode code with
    | none => rw [takeCommand_undefined hcode]; exact .stays _
    | some cmd =>
      rw [takeCommand_defined hcode]
      obtain rfl := code_of_ofCode hcode
      exact .takes cmd data _ (.inr (.inr ⟨rfl, h, hcommand⟩)) rfl rfl rfl
  · exact .stays _

theorem exec_linkStep {c : Instr} {s t : State} (hc : isLinkRow c = true) (h : exec c s = .next t) : LinkStep s c t := by
  cases hframe : c.commandFrame with
  | some f =>
    obtain ⟨code, data⟩ := f
    rw [exec_commandFrame hframe] at h
    injection h with h
    subst h
    obtain ⟨p, hp⟩ | ⟨hfree, cmd, rfl, hrun⟩ := offerCommand_cases s code data
    · rw [hp]; exact .stays p
    · rw [hrun]; exact .takes cmd data s.pk (.inl ⟨hfree, hframe⟩) hfree.1 hfree.2 rfl
  | none =>
    have same : LinkStep s c s := .stays s.pk
    cases c <;> try (cases hframe; done)
    case linkByteReceived b => cases h; exact receiveByte_linkStep s (.inl rfl)
    case commandFrameComplete b =>
      simp only [exec, execCommandFrameComplete] at h
      split at h
      · split at h
        · cases h; exact receiveByte_linkStep s (.inr rfl)
        · cases h; exact same
      all_goals cases h; exact same
    case linkBadLength b =>
      simp only [exec, execLinkBadLength] at h
      split at h
      · next hlength =>
        cases h
        obtain ⟨p, hp⟩ | ⟨-, length, kept, data, cmd, hreceiver, -⟩ := receiveByte_cases s b
        · rw [hp]; exact .stays p
        · rw [hlength.1] at hreceiver; cases hreceiver
      · cases h; exact same
    case linkStopBitError => cases h; exact .stays _
    case linkGapTimeout => cases h; exact .stays _
    case responseSent =>
      simp only [exec, execResponseSent] at h
      split at h
      · next r hr => cases h; exact takeWaiting_linkStep s ⟨r, hr⟩
      all_goals cases h; exact same
    case holdReleased =>
      simp only [exec, execHoldReleased] at h
      split at h <;> cases h <;> exact .stays _
    case holdAsserted => cases h; exact .stays _
    all_goals simp [isLinkRow, Instr.commandFrame] at hc

end Sys2Proof.Proofs.PedestalLink
end

section
/-! The commands sorted by the block that they reach, and the events of one outlet's lines, messages and timers: each is work of that
outlet alone. -/

namespace Sys2Proof.Proofs.OutletEvents

open Machine OutletOperations

/-! ## The commands by block -/

/-- The rows whose work is the line interface's alone, but for the acknowledgement that the share engine is told of. -/
def isLineRow : Instr → Bool
  | .transmitStart => true
  | .transmitComplete _ => true
  | .arbitrationLost _ => true
  | .txFault _ => true
  | .framingError _ => true
  | .lineStuck => true
  | .lineIdle => true
  | .peerLeadCell _ => true
  | .stageMessageDiscarded _ => true
  | _ => false

/-- Every command is a row of the link, of the line, of one outlet, or one of twelve that reach several blocks. -/
theorem casesByBlock {P : Instr → Prop} (hardReset : ∀ pins levels, P (.hardReset pins levels)) (clockTick : P .clockTick)
    (round : P .round) (numberClash : ∀ cell, P (.numberClash cell)) (frameEvaluation : ∀ bytes, P (.frameEvaluation bytes))
    (holdTimerExpiry : P .holdTimerExpiry) (siteTripAsserted : P .siteTripAsserted) (siteTripReleased : P .siteTripReleased)
    (emergencyStopAsserted : P .emergencyStopAsserted) (emergencyStopReleased : P .emergencyStopReleased)
    (line : ∀ c, isLineRow c = true → P c) (outlet : ∀ c x, c.outletEvent = some x → P c)
    (link : ∀ c, PedestalLink.isLinkRow c = true → P c) (c : Instr) : P c := by
  cases c
  case hardReset => exact hardReset _ _
  case clockTick => exact clockTick
  case round => exact round
  case numberClash => exact numberClash _
  case frameEvaluation => exact frameEvaluation _
  case holdTimerExpiry => exact holdTimerExpiry
  case siteTripAsserted => exact siteTripAsserted
  case siteTripReleased => exact siteTripReleased
  case emergencyStopAsserted => exact emergencyStopAsserted
  case emergencyStopReleased => exact emergencyStopReleased
  all_goals first | exact line _ rfl | exact outlet _ _ rfl | exact link _ rfl

/-! ## The line interface's own rows -/

/-- Nothing but the line interface, the attention causes and the acknowledgement of the ANNOUNCE differs. -/
abbrev LineWork (s t : State) : Prop :=
  t = { s with li := t.li, se := { s.se with ackReported := t.se.ackReported }, pk := { s.pk with edge := t.pk.edge } }

theorem becomesStuck_lineWork (s : State) : LineWork s s.becomesStuck := by
  unfold State.becomesStuck; split <;> rfl

theorem dominantCell_lineWork (s : State) (edge : Bool) : LineWork s (s.dominantCell edge) := by
  unfold State.dominantCell
  dsimp only
  generalize (if edge = true then 1 else s.li.dominant + 1) = n
  split
  · exact becomesStuck_lineWork { s with li := { s.li with recessive := 0, dominant := n } }
  · rfl

theorem exec_lineRow {c : Instr} {s t : State} (hc : isLineRow c = true) (h : exec c s = .next t) : LineWork s t := by
  cases c <;> try (cases hc; done)
  case transmitStart =>
    simp only [exec, execTransmitStart] at h
    split at h
    · split at h <;> cases h <;> rfl
    · cases h; rfl
  case transmitComplete ack =>
    simp only [exec, execTransmitComplete] at h
    split at h <;> cases h <;> rfl
  case arbitrationLost cell =>
    simp only [exec, execArbitrationLost] at h
    split at h
    · split at h <;> cases h <;> rfl
    all_goals cases h; rfl
  case txFault cell =>
    simp only [exec, execTxFault] at h
    split at h
    · split at h <;> cases h <;> rfl
    all_goals cases h; rfl
  case framingError byte =>
    simp only [exec, execFramingError] at h
    split at h <;> cases h <;> rfl
  case lineStuck =>
    cases h
    exact becomesStuck_lineWork { s with li := { s.li with recessive := 0, dominant := Config.stuckCells } }
  case lineIdle => cases h; rfl
  case peerLeadCell edge =>
    simp only [exec, execPeerLeadCell] at h
    split at h
    · split at h <;> cases h <;> rfl
    all_goals cases h; exact dominantCell_lineWork s edge
  case stageMessageDiscarded why => cases h; rfl

/-! ## The meter unit's events -/

section
variable (s : State) (x : Outlet)

theorem modMu_modMu (f g : MeterOutlet → MeterOutlet) : (s.modMu x f).modMu x g = s.modMu x fun m => g (f m) := by
  cases x <;> rfl

theorem testOverdraw_work (p inForce : Nat) (counting : Bool) : OutletWork x s (s.testOverdraw x p inForce counting) := by
  have cleared : OutletWork x s (s.modMu x fun m => { m with overdraw := 0 }) :=
    modMu_work s x _ fun ⟨hr, _, hp, hd⟩ => ⟨hr, Nat.zero_le _, hp, hd⟩
  unfold State.testOverdraw
  dsimp only
  split
  · split
    · next hlast => exact modMu_work s x _ fun ⟨hr, _, hp, hd⟩ => ⟨hr, hlast, hp, hd⟩
    · exact cleared.trans (ordinaryStop_work _ x _)
  · exact cleared

theorem handCarry_work (wh : Nat) : OutletWork x s (s.handCarry x wh) := by
  unfold State.handCarry
  split
  · exact .refl x s
  · split
    · exact deliver_work s x _ _
    · exact modMu_work s x _ id

theorem meterSample_work (v i : Nat) (saturated : Bool) : OutletWork x s (s.meterSample x v i saturated) := by
  have sums : OutletWork x s (s.modMu x fun m => { m with powerSum := m.powerSum + v * i, sampleCount := m.sampleCount + 1 }) :=
    modMu_work s x _ id
  unfold State.meterSample
  dsimp only
  refine .trans ?_ (testOverdraw_work _ x _ _ _)
  split
  · refine .trans ?_ (handCarry_work _ x _)
    refine .trans ?_ (modMu_work _ x _ fun ⟨_, ho, hp, hd⟩ => ⟨Nat.mod_lt _ (by decide), ho, hp, hd⟩)
    split
    · exact sums.trans (modFlags_work _ x _)
    · exact sums
  · exact sums

/-- A window closes by one of three counts of disagreement, each in its range. -/
theorem closeCrossCheck_work {s t : State} {x : Outlet}
    (h : ∀ d, d ≤ 2 → OutletWork x s (t.modMu x fun m => { m with windowPulse := 0, windowSample := 0, disagree := d })) :
    OutletWork x s (t.closeCrossCheck x) := by
  unfold State.closeCrossCheck
  dsimp only
  split
  · exact h 0 (Nat.zero_le 2)
  · split
    · next hlast => exact h _ hlast
    · exact ((h 0 (Nat.zero_le 2)).trans (modFlags_work _ x _)).trans (raise_work _ x _)

/-- A pulse counted past the end of its window closes the window at the same moment, so the count never stands above it. -/
theorem countPulse_work (weight : Nat) : OutletWork x s (s.countPulse x weight) := by
  unfold State.countPulse
  dsimp only
  split
  · refine closeCrossCheck_work fun d hd => ?_
    rw [modMu_modMu]
    exact modMu_work s x _ fun ⟨hr, ho, _, _⟩ => ⟨hr, ho, Nat.zero_lt_succ 999, hd⟩
  · next hfull =>
    rw [State.modMu_same] at hfull
    exact modMu_work s x _ fun ⟨hr, ho, _, hd⟩ => ⟨hr, ho, Nat.not_le.mp hfull, hd⟩

end

/-! ## The events of one outlet -/

section
variable {s t : State} {x : Outlet}

theorem exec_meterPulse_work (h : exec (.meterPulse x) s = .next t) : OutletWork x s t := by
  have asserted : OutletWork x s (s.modMu x fun m => { m with pulseAsserted := true }) := modMu_work s x _ id
  simp only [exec, execMeterPulse] at h
  split at h
  · split at h
    · cases h; exact asserted
    · split at h
      · split at h <;> cases h
        · exact (asserted.trans (deliver_work _ x _ _)).trans (countPulse_work _ x _)
        · exact asserted.trans (deliver_work _ x _ _)
      · cases h; exact asserted
  · cases h; exact .refl x s

theorem contactorClosed_work (s : State) (x : Outlet) : OutletWork x s (s.contactorClosed x) := by
  unfold State.contactorClosed
  split
  · exact enter_work s x _
  · exact .refl x s

theorem exec_feedbackClosed_work (h : exec (.feedbackClosed x) s = .next t) : OutletWork x s t := by
  have recorded : OutletWork x s (s.modSp x fun o => { o with feedbackClosed := true }) := modSp_work s x _
  simp only [exec, execFeedbackClosed] at h
  split at h
  · split at h <;> cases h
    · exact (recorded.trans (modSp_work _ x fun o => { o with contactor := .closed, contactorTimer := false })).trans
        (contactorClosed_work _ x)
    · exact recorded.trans (weld_work _ x)
    all_goals exact recorded
  · cases h; exact .refl x s

theorem contactorDrop_work (s : State) (x : Outlet) : OutletWork x s (s.contactorDrop x) := by
  unfold State.contactorDrop
  split
  · exact ordinaryStop_work s x _
  · exact endRampDown_work s x

theorem exec_feedbackOpen_work (h : exec (.feedbackOpen x) s = .next t) : OutletWork x s t := by
  have recorded : OutletWork x s (s.modSp x fun o => { o with feedbackClosed := false }) := modSp_work s x _
  simp only [exec, execFeedbackOpen] at h
  split at h
  · split at h <;> cases h
    · exact recorded.trans (openConfirmed_work _ x)
    · exact ((recorded.trans (order_work _ x 0)).trans (openConfirmed_work _ x)).trans (contactorDrop_work _ x)
    all_goals exact recorded
  · cases h; exact .refl x s

theorem contactorFault_work (s : State) (x : Outlet) : OutletWork x s (s.contactorFault x) := by
  unfold State.contactorFault
  split
  · exact quickStop_work s x _
  · exact endRampDown_work s x

theorem exec_contactorTimerExpiry_work (h : exec (.contactorTimerExpiry x) s = .next t) : OutletWork x s t := by
  simp only [exec, execContactorTimerExpiry] at h
  split at h
  · split at h <;> cases h
    · exact (openConfirmed_work s x).trans (contactorFault_work _ x)
    · exact weld_work s x
    all_goals exact .refl x s
  · cases h; exact .refl x s

theorem exec_plugInserted_work (h : exec (.plugInserted x) s = .next t) : OutletWork x s t := by
  have recorded : OutletWork x s (s.modSp x fun o => { o with plugPresent := true }) := modSp_work s x _
  simp only [exec, execPlugInserted] at h
  split at h
  · split at h
    · have taken := recorded.trans (modSc_work _ x (fun c => { c with awaitTimer := false }) (by intro; rfl))
      split at h <;> cases h
      · exact (taken.trans (enter_work _ x _)).trans (modFlags_work _ x _)
      · exact taken.trans (connect_work _ x)
    · cases h; exact recorded
  · cases h; exact .refl x s

theorem exec_plugRemoved_work (h : exec (.plugRemoved x) s = .next t) : OutletWork x s t := by
  have recorded : OutletWork x s (s.modSp x fun o => { o with plugPresent := false }) := modSp_work s x _
  simp only [exec, execPlugRemoved] at h
  split at h
  · split at h <;> cases h
    · exact recorded.trans (quickStop_work _ x _)
    · exact recorded.trans (quickStop_work _ x _)
    · exact recorded.trans (quickStop_work _ x _)
    · exact recorded.trans (endRampDown_work _ x)
    · exact recorded.trans (settle_work _ x)
    all_goals exact recorded
  · cases h; exact .refl x s

theorem exec_orderTimerExpiry_work (h : exec (.orderTimerExpiry x) s = .next t) : OutletWork x s t := by
  have expired : OutletWork x s (s.modSp x fun o => { o with orderTimer := .expired }) := modSp_work s x _
  simp only [exec, execOrderTimerExpiry] at h
  split at h
  · split at h <;> cases h
    · exact expired.trans (quickStop_work _ x _)
    · exact expired.trans (endRampDown_work _ x)
  · cases h; exact .refl x s

theorem exec_stageLost_work (h : exec (.stageLost x) s = .next t) : OutletWork x s t := by
  have stopped : OutletWork x s (s.modMu x fun m => { m with silenceTimer := false }) := modMu_work s x _ id
  simp only [exec, execStageLost] at h
  split at h
  · split at h <;> cases h
    · exact stopped.trans (quickStop_work _ x _)
    · exact stopped
  · cases h; exact .refl x s

theorem idleMinute_id (r : SessionRecord) (grace price maximum : Nat) : (r.idleMinute grace price maximum).id = r.id := by
  unfold SessionRecord.idleMinute
  dsimp only
  split
  · rfl
  · split
    · rfl
    · split
      · rfl
      · split <;> rfl

theorem exec_idleMinute_work (h : exec (.idleMinute x) s = .next t) : OutletWork x s t := by
  simp only [exec, execIdleMinute] at h
  split at h
  · split at h
    · cases h; exact .refl x s
    · split at h <;> cases h
      · exact .refl x s
      · exact modSession_work s x _ fun r => idleMinute_id r _ _ _
  · cases h; exact .refl x s

/-- Section 1.5 of the scope file: an event of one outlet is work of that outlet alone. -/
theorem exec_outletEvent {c : Instr} (hc : c.outletEvent = some x) (h : exec c s = .next t) : OutletWork x s t := by
  cases c <;> cases hc
  case sample =>
    simp only [exec, execSample] at h
    split at h <;> cases h
    · exact meterSample_work s x _ _ _
    · exact .refl x s
  case settled =>
    simp only [exec, execSettled] at h
    split at h <;> cases h
    · exact (modSp_work s x _).trans (endRampDown_work _ x)
    · exact .refl x s
  case orderTimerExpiry => exact exec_orderTimerExpiry_work h
  case feedbackClosed => exact exec_feedbackClosed_work h
  case feedbackOpen => exact exec_feedbackOpen_work h
  case contactorTimerExpiry => exact exec_contactorTimerExpiry_work h
  case plugInserted => exact exec_plugInserted_work h
  case plugRemoved => exact exec_plugRemoved_work h
  case meterPulse => exact exec_meterPulse_work h
  case stageLost => exact exec_stageLost_work h
  case noVehicle =>
    simp only [exec, execNoVehicle] at h
    split at h <;> cases h
    · exact endAndSettle_work s x _
    · exact .refl x s
  case idleMinute => exact exec_idleMinute_work h
  case pulseInputReleased =>
    simp only [exec, execPulseInputReleased] at h
    split at h <;> cases h
    · exact modMu_work s x _ id
    · exact .refl x s

end

/-- Settles O60: the event's work is that of its own outlet. -/
theorem outletsAreIndependent : Obligations.OutletsAreIndependent := by
  intro s t c x y hc hy h
  have work := exec_outletEvent hc h
  exact ⟨work.other y hy, work.cf, work.li, work.pv, work.se, work.estop, work.nextId⟩

end Sys2Proof.Proofs.OutletEvents
end

section
/-! What every command keeps until a hard reset: straps, configuration, clock and BARRED, the queue of commands, the queued records in
their order, the id counter, and the ranges of the counters. Two commands do more: an accepted OPEN_SESSION moves the id counter, and
RELEASE_SETTLEMENT takes the head of the queue. -/

namespace Sys2Proof.Proofs.StationWork

open Machine SettlementQueue OutletOperations OutletEvents PedestalLink

/-! ## Work that keeps what stands until a hard reset -/

abbrev ClockFits (c : ConfigClock) : Prop := c.second < 86400 ∧ c.day < 65536

abbrev CountersFit (e : ShareEngine) : Prop := e.timer ≤ 255 ∧ e.failed ≤ 2 ∧ e.tripRepeat ≤ 3

/-- The straps, an accepted configuration and the clock's set flag stand, and the clock stays in its ranges. -/
structure ConfigKept (c d : ConfigClock) : Prop where
  straps : d.straps = c.straps
  config : c.config.isSome = true → d.config = c.config
  clockSet : c.clockSet = true → d.clockSet = true
  clock : ClockFits c → ClockFits d

/-- BARRED stands, and the counters stay in their ranges. -/
structure SharingKept (e f : ShareEngine) : Prop where
  barred : e.state = .barred → f.state = .barred
  counters : CountersFit e → CountersFit f

/-- Work of any blocks that keeps what stands until a hard reset, and opens no session. -/
structure Kept (s t : State) : Prop where
  cf : ConfigKept s.cf t.cf
  se : SharingKept s.se t.se
  pending : t.pending = s.pending
  nextId : t.nextId = s.nextId
  queue : s.sq.queue <+: t.sq.queue
  session : ∀ x r, (s.outlet x).sc.session = some r →
    (∃ r', (t.outlet x).sc.session = some r' ∧ r'.id = r.id) ∨ ∃ e ∈ t.sq.queue, e.record.id = r.id
  range : ∀ x, (s.outlet x).mu.InRange → (t.outlet x).mu.InRange

theorem ConfigKept.refl (c : ConfigClock) : ConfigKept c c := ⟨rfl, fun _ => rfl, id, id⟩

theorem ConfigKept.of_eq {c d : ConfigClock} (h : d = c) : ConfigKept c d := h ▸ .refl d

theorem ConfigKept.trans {c d e : ConfigClock} (h : ConfigKept c d) (g : ConfigKept d e) : ConfigKept c e where
  straps := g.straps.trans h.straps
  config hc := by
    have hd := h.config hc
    rw [g.config (by rwa [hd]), hd]
  clockSet hc := g.clockSet (h.clockSet hc)
  clock hc := g.clock (h.clock hc)

theorem SharingKept.refl (e : ShareEngine) : SharingKept e e := ⟨id, id⟩

theorem SharingKept.of_eq {e f : ShareEngine} (h : f = e) : SharingKept e f := h ▸ .refl f

theorem SharingKept.trans {e f g : ShareEngine} (h : SharingKept e f) (k : SharingKept f g) : SharingKept e g :=
  ⟨fun he => k.barred (h.barred he), fun he => k.counters (h.counters he)⟩

theorem Kept.trans {s t u : State} (h : Kept s t) (g : Kept t u) : Kept s u where
  cf := h.cf.trans g.cf
  se := h.se.trans g.se
  pending := g.pending.trans h.pending
  nextId := g.nextId.trans h.nextId
  queue := h.queue.trans g.queue
  session x r hr := by
    obtain ⟨r', hr', id'⟩ | ⟨e, he, ide⟩ := h.session x r hr
    · rw [← id']; exact g.session x r' hr'
    · exact .inr ⟨e, g.queue.subset he, ide⟩
  range x hx := g.range x (h.range x hx)

theorem kept_of_work {s t : State} (h : OutletsWork s t) : Kept s t :=
  ⟨.of_eq h.cf, .of_eq h.se, h.pending, h.nextId, h.queue, h.session, h.range⟩

theorem outlet_congr {s t : State} (hA : t.outA = s.outA) (hB : t.outB = s.outB) (x : Outlet) : t.outlet x = s.outlet x := by
  cases x
  · exact hA
  · exact hB

/-- Work that reaches neither the outlets nor the settlement queue. -/
theorem kept_of_block {s t : State} (cf : ConfigKept s.cf t.cf) (se : SharingKept s.se t.se) (hA : t.outA = s.outA := by rfl)
    (hB : t.outB = s.outB := by rfl) (hsq : t.sq = s.sq := by rfl) (hpending : t.pending = s.pending := by rfl)
    (hnext : t.nextId = s.nextId := by rfl) : Kept s t :=
  ⟨cf, se, hpending, hnext, by rw [hsq], fun x r h => .inl ⟨r, by rwa [outlet_congr hA hB], rfl⟩,
    fun x h => by rwa [outlet_congr hA hB]⟩

theorem Kept.refl (s : State) : Kept s s := kept_of_block (.refl _) (.refl _)

section
variable (s : State) (x : Outlet)

theorem kept_li (v : LineInterface) : Kept s { s with li := v } := kept_of_block (.refl _) (.refl _)

theorem kept_pv (v : PeerView) : Kept s { s with pv := v } := kept_of_block (.refl _) (.refl _)

theorem kept_pk (v : Machine.PedestalLink) : Kept s { s with pk := v } := kept_of_block (.refl _) (.refl _)

theorem kept_ts (v : TariffStore) : Kept s { s with ts := v } := kept_of_block (.refl _) (.refl _)

theorem kept_estop (v : Bool) : Kept s { s with estop := v } := kept_of_block (.refl _) (.refl _)

theorem kept_cf (v : ConfigClock) (h : ConfigKept s.cf v) : Kept s { s with cf := v } := kept_of_block h (.refl _)

theorem kept_se (v : ShareEngine) (h : SharingKept s.se v) : Kept s { s with se := v } := kept_of_block (.refl _) h

theorem raise_kept (c : Cause) : Kept s (s.raise c) := kept_pk s _

/-! ## Halts, the site trip and the clash -/

theorem setView_kept (v : PeerView) : Kept s (s.setView v) := by
  unfold State.setView
  dsimp only
  split
  · exact kept_pv s v
  · exact (kept_pv s v).trans (raise_kept _ _)

theorem placeFrame_kept (k : FrameKind) (bytes : List Byte) : Kept s (s.placeFrame k bytes) := by
  unfold State.placeFrame
  split
  · exact .refl s
  · exact kept_li s _

theorem orderZeroBoth_work : OutletsWork s s.orderZeroBoth :=
  (order_work s .a 0).toOutletsWork.trans (order_work _ .b 0).toOutletsWork

theorem haltBegins_kept : Kept s s.haltBegins := by
  have forced : Kept s (s.raise .halt).zeroCeiling := (raise_kept s .halt).trans (kept_se _ _ ⟨id, id⟩)
  have suspended : ∀ t : State, OutletsWork t ((t.suspend .a).suspend .b) := fun t =>
    (suspend_work t .a).toOutletsWork.trans (suspend_work _ .b).toOutletsWork
  exact forced.trans (kept_of_work ((orderZeroBoth_work _).trans (suspended _)))

theorem takeHalt_kept (source seconds reason : Nat) : Kept s (s.takeHalt source seconds reason) := by
  unfold State.takeHalt
  dsimp only
  split
  · exact kept_pv s _
  · split
    · exact (kept_pv s _).trans (haltBegins_kept _)
    · exact kept_pv s _

theorem originateHalt_kept (seconds reason : Nat) : Kept s (s.originateHalt seconds reason) :=
  (placeFrame_kept s _ _).trans (takeHalt_kept _ _ _ _)

theorem tripBegins_kept (k : Configuration) : Kept s (s.tripBegins k) :=
  (originateHalt_kept s _ _).trans (kept_se _ _ ⟨id, fun ⟨ht, hf, _⟩ => ⟨ht, hf, Nat.zero_le 3⟩⟩)

theorem retrip_kept : Kept s s.retrip := by
  unfold State.retrip
  split
  · split
    · exact tripBegins_kept s _
    · exact .refl s
  · exact .refl s

theorem haltEnds_kept : Kept s s.haltEnds :=
  kept_of_work ((resume_work s .a).toOutletsWork.trans (resume_work _ .b).toOutletsWork)

theorem clash_kept : Kept s s.clash := by
  have line : Kept s ({ s with li := { s.li.emptySlots with activity := .quiet } }.raise .clash) :=
    (kept_li s _).trans (raise_kept _ _)
  have barred : ∀ t : State, Kept t { t with se := { t.se with state := .barred, ceiling := 0, claim := 0, timer := 0, failed := 0 } } :=
    fun t => kept_se t _ ⟨fun _ => rfl, fun ⟨_, _, hr⟩ => ⟨Nat.zero_le _, Nat.zero_le _, hr⟩⟩
  have ended : ∀ t : State, OutletsWork t ((t.clashOutlet .a).clashOutlet .b) := fun t =>
    (clashOutlet_work t .a).toOutletsWork.trans (clashOutlet_work _ .b).toOutletsWork
  exact (line.trans (barred _)).trans
    (((kept_of_work (orderZeroBoth_work _)).trans (raise_kept _ .share)).trans (kept_of_work (ended _)))

/-! ## Received frames -/

theorem handFrame_kept (kind : FrameKind) (station : Nat) (payload : List Byte) : Kept s (s.handFrame kind station payload) := by
  unfold State.handFrame
  split
  · exact setView_kept s _
  · exact setView_kept s _
  · exact takeHalt_kept s _ _ _

theorem takeFrame_kept (bytes : List Byte) : Kept s (s.takeFrame bytes) := by
  have rejected : Kept s { s with li := s.li.frameEnds bytes false } := kept_li s _
  unfold State.takeFrame
  dsimp only
  split
  · exact rejected
  · exact rejected
  · exact rejected.trans (clash_kept _)
  · exact (rejected.trans (kept_li _ _)).trans (raise_kept _ _)
  · exact (kept_li s _).trans (handFrame_kept _ _ _ _)

/-! ## The round -/

theorem fixOutcome_failed (e : ShareEngine) (h : e.failed ≤ 2) :
    e.fixOutcome.failed ≤ 2 ∨ e.fixOutcome.failed = 3 ∧ (e.state = .joining ∨ e.state = .sharing) := by
  unfold ShareEngine.fixOutcome
  split
  · exact .inl h
  · split
    · exact .inl (Nat.zero_le 2)
    · dsimp only
      split
      · next hstate =>
        by_cases hlast : e.failed = 2
        · exact .inr ⟨by omega, hstate⟩
        · exact .inl (by omega)
      · exact .inl h

theorem fixOutcome_state (e : ShareEngine) :
    e.fixOutcome.state = e.state ∧ e.fixOutcome.timer = e.timer ∧ e.fixOutcome.tripRepeat = e.tripRepeat := by
  unfold ShareEngine.fixOutcome
  split
  · exact ⟨rfl, rfl, rfl⟩
  · split <;> exact ⟨rfl, rfl, rfl⟩

/-- The third failed round in a row isolates the station, so the count never stands at 3 between two rounds (R71, R72). -/
theorem transition_kept (e : ShareEngine) (fallback : Nat) : SharingKept e (e.fixOutcome.tick.transition fallback) := by
  obtain ⟨hstate, htimer, hrepeat⟩ := fixOutcome_state e
  have timer : e.fixOutcome.tick.timer ≤ 255 := Nat.min_le_right _ _
  have state : e.fixOutcome.tick.state = e.state := hstate
  refine ⟨fun h => ?_, fun ⟨_, hfailed, hr⟩ => ?_⟩
  · unfold ShareEngine.transition
    rw [state, h]
    exact state.trans h
  · have failed := fixOutcome_failed e hfailed
    have repeated : e.fixOutcome.tick.tripRepeat ≤ 3 := hrepeat.trans_le hr
    change e.fixOutcome.tick.failed ≤ 2 ∨ e.fixOutcome.tick.failed = 3 ∧ _ at failed
    rw [← state] at failed
    generalize e.fixOutcome.tick = f at *
    unfold ShareEngine.transition ShareEngine.enterAtRound
    cases hf : f.state <;> simp only [hf, reduceCtorEq, or_self, or_true, and_false, and_true, or_false] at failed
    case joining =>
      dsimp only
      split
      · exact ⟨by simp, Nat.zero_le 2, repeated⟩
      · next h =>
        have two : f.failed ≤ 2 := failed.resolve_right h
        split
        · exact ⟨by simp, two, repeated⟩
        · exact ⟨timer, two, repeated⟩
    case sharing =>
      dsimp only
      split
      · exact ⟨by simp, Nat.zero_le 2, repeated⟩
      · next h => exact ⟨timer, failed.resolve_right h, repeated⟩
    case isolated =>
      dsimp only
      split
      · exact ⟨by simp, failed, repeated⟩
      · exact ⟨timer, failed, repeated⟩
    all_goals exact ⟨timer, failed, repeated⟩

theorem roundState_kept : Kept s s.roundState := by
  have moved := kept_se s _ (transition_kept s.se ((s.cf.config.map Configuration.fallback).getD 0))
  unfold State.roundState
  dsimp only
  split
  · exact moved
  · exact moved.trans (raise_kept _ _)

theorem roundArithmetic_kept : Kept s s.roundArithmetic := by
  unfold State.roundArithmetic
  split
  · exact kept_se s _ ⟨id, id⟩
  · dsimp only
    split
    case h_5 =>
      split
      · exact kept_se s _ ⟨id, id⟩
      · exact kept_se s _ ⟨id, id⟩
    all_goals exact kept_se s _ ⟨id, id⟩

theorem giveCeiling_work (c : Nat) : OutletWork x s (s.giveCeiling x c) := by
  unfold State.giveCeiling
  dsimp only
  split
  · exact (order_work s x c).trans (modFlags_work _ x _)
  · exact order_work s x c

theorem roundSplit_work : OutletsWork s s.roundSplit := by
  unfold State.roundSplit
  split
  · exact (giveCeiling_work s .a _).toOutletsWork.trans (giveCeiling_work _ .b _).toOutletsWork
  · exact .refl s

theorem recordDraw_work : OutletWork x s (s.recordDraw x) := modMu_work s x _ id

theorem roundAnnounce_kept : Kept s s.roundAnnounce := by
  unfold State.roundAnnounce
  dsimp only
  split
  · exact kept_se s _ ⟨id, id⟩
  · split
    · exact (kept_se s { s.se with parity := !s.se.parity, frameBuilt := true, frameClaim := s.se.claim } ⟨id, id⟩).trans
        (placeFrame_kept _ _ _)
    · exact kept_se s _ ⟨id, id⟩

theorem roundOriginate_kept : Kept s s.roundOriginate := by
  refine .trans (t := if s.se.origin < 100 then s.placeCurtail s.se.origin else s) ?_ ?_
  · split
    · exact placeFrame_kept s _ _
    · exact .refl s
  · unfold State.roundOriginate
    dsimp only
    generalize (if s.se.origin < 100 then s.placeCurtail s.se.origin else s) = t
    split
    · exact .refl t
    · split
      · exact .refl t
      · split
        · next hrepeat => exact kept_se t _ ⟨id, fun ⟨h1, h2, _⟩ => ⟨h1, h2, Nat.le_of_lt_succ hrepeat⟩⟩
        · exact tripBegins_kept t _

theorem round_kept {t : State} (h : exec .round s = .next t) : Kept s t := by
  cases h
  have draws : ∀ u : State, OutletsWork u ((u.recordDraw .a).recordDraw .b) := fun u =>
    (recordDraw_work u .a).toOutletsWork.trans (recordDraw_work _ .b).toOutletsWork
  exact ((((setView_kept s _).trans (roundState_kept _)).trans (roundArithmetic_kept _)).trans
    (kept_of_work ((roundSplit_work _).trans (draws _)))).trans ((roundAnnounce_kept _).trans (roundOriginate_kept _))

/-! ## The emergency stop and the service restart -/

theorem stopStage_work : OutletWork x s (s.stopStage x) := by
  unfold State.stopStage
  split
  · exact (order_work s x 0).trans (modSp_work _ x _)
  · exact .refl x s

theorem stopOpening_work : OutletWork x s (s.stopOpening x) := by
  unfold State.stopOpening
  split
  · exact endAndSettle_work s x _
  · exact ((endWith_work s x _).trans (enter_work _ x _)).trans (modSc_work _ x _ (by intro; rfl))

theorem stopOutlet_work : OutletWork x s (s.stopOutlet x) := by
  unfold State.stopOutlet
  split
  · exact enter_work s x _
  · exact endAndSettle_work s x _
  · exact endAndSettle_work s x _
  · exact stopOpening_work s x
  · exact stopOpening_work s x
  · exact stopOpening_work s x
  · exact stopOpening_work s x
  · split
    · exact endWith_work s x _
    · exact .refl x s

theorem stopBoth_work : OutletsWork s ((((s.stopStage .a).stopStage .b).stopOutlet .a).stopOutlet .b) :=
  (((stopStage_work s .a).toOutletsWork.trans (stopStage_work _ .b).toOutletsWork).trans
    (stopOutlet_work _ .a).toOutletsWork).trans (stopOutlet_work _ .b).toOutletsWork

theorem releaseOutlet_work : OutletWork x s (s.releaseOutlet x) := by
  unfold State.releaseOutlet
  split
  · dsimp only
    split
    · exact (modSp_work s x _).trans (enter_work _ x _)
    · exact modSp_work s x _
  · exact .refl x s

theorem restartStage_work : OutletWork x s (s.restartStage x) := by
  unfold State.restartStage
  split
  · exact (order_work s x 0).trans (modSp_work _ x _)
  · exact .refl x s

theorem restartOutlet_work : OutletWork x s (s.restartOutlet x) := by
  unfold State.restartOutlet
  split
  · exact (((endWith_work s x _).trans (settleRecord_work _ x)).trans (modSc_work _ x _ (by intro; rfl))).trans
      (modMu_work _ x _ id)
  · exact .refl x s

theorem restartBoth_work :
    OutletsWork s ((((s.restartStage .a).restartStage .b).restartOutlet .a).restartOutlet .b) :=
  (((restartStage_work s .a).toOutletsWork.trans (restartStage_work _ .b).toOutletsWork).trans
    (restartOutlet_work _ .a).toOutletsWork).trans (restartOutlet_work _ .b).toOutletsWork

theorem restart_sharingKept (e : ShareEngine) : SharingKept e e.restart := by
  constructor
  · intro h; unfold ShareEngine.restart; rw [h]
  · rintro ⟨_, _, hr⟩
    unfold ShareEngine.restart
    cases e.state <;> exact ⟨Nat.zero_le _, Nat.zero_le _, hr⟩

theorem serviceRestart_kept : Kept s s.serviceRestart := by
  unfold State.serviceRestart
  dsimp only
  refine .trans ((kept_of_work (restartBoth_work s)).trans ?_) (retrip_kept _)
  exact kept_of_block (.refl _) (restart_sharingKept _)

theorem hearAllInRestart_kept : Kept s s.hearAllInRestart := by
  rw [s.hearAllInRestart_spec.1]; exact kept_pk s _

/-! ## The owners of the link's commands -/

theorem joinAtConfigure_kept : Kept s s.joinAtConfigure := by
  unfold State.joinAtConfigure
  split
  · next h =>
    refine (kept_se s { s.se with state := .joining, cap := 0, timer := 0 } ⟨fun hb => ?_, fun ⟨_, hf, hr⟩ => ?_⟩).trans (raise_kept _ _)
    · rw [h] at hb; cases hb
    · exact ⟨Nat.zero_le _, hf, hr⟩
  · exact .refl s

theorem configure_kept (data : List Byte) : Kept s (configureCommand data s).state := by
  unfold configureCommand
  dsimp only
  split
  · exact .refl s
  · next hconfigured =>
    split
    · have stored : Kept s { s with cf := { s.cf with config := some (readConfiguration data) } } :=
        kept_cf s _ ⟨rfl, fun h => absurd h hconfigured, id, id⟩
      exact ((stored.trans (setView_kept _ _)).trans (joinAtConfigure_kept _)).trans (retrip_kept _)
    · exact .refl s

theorem natOfBytes_lt (bs : List Byte) : natOfBytes bs < 256 ^ bs.length := by
  induction bs using List.reverseRecOn with
  | nil => exact Nat.one_pos
  | append_singleton bs b ih =>
    have hb : b.toNat < 256 := b.isLt
    have step : natOfBytes (bs ++ [b]) = natOfBytes bs * 256 + b.toNat := by simp [natOfBytes]
    rw [step, List.length_append, List.length_singleton, Nat.pow_succ]
    omega

theorem field_lt (data : List Byte) (pos len : Nat) : field data pos len < 256 ^ len :=
  (natOfBytes_lt _).trans_le (Nat.pow_le_pow_right (by decide) (List.length_take_le _ _))

theorem stepClock_work : OutletWork x s (s.stepClock x) := modFlags_work s x _

theorem setClock_kept (data : List Byte) : Kept s (setClockCommand data s).state := by
  unfold setClockCommand
  split
  · exact .refl s
  · next h =>
    have second : field data 2 3 < 86400 := by simp only [Config.daySeconds] at h; omega
    have day : field data 0 2 < 65536 := field_lt data 0 2
    refine (kept_cf s { s.cf with day := field data 0 2, second := field data 2 3, clockSet := true }
      ⟨rfl, fun _ => rfl, fun _ => rfl, fun _ => ⟨second, day⟩⟩).trans (kept_of_work ?_)
    exact (stepClock_work _ .a).toOutletsWork.trans (stepClock_work _ .b).toOutletsWork

theorem restart_kept (data : List Byte) : Kept s (restartCommand data s).state := by
  unfold restartCommand
  split
  · exact .refl s
  · exact (serviceRestart_kept s).trans (hearAllInRestart_kept _)

theorem loadTariff_kept (data : List Byte) : Kept s (loadTariffCommand data s).state := by
  unfold loadTariffCommand
  split
  · exact .refl s
  · split
    · exact .refl s
    · exact kept_ts s _

theorem demand_kept (data : List Byte) : Kept s (demandCommand data s).state := by
  unfold demandCommand
  split
  · exact .refl s
  · split
    · exact .refl s
    · split
      · exact .refl s
      · split
        · next x _ _ _ _ =>
          exact kept_of_work (modSc_work s x (fun c => { c with requested := min (field data 1 2) (s.rating x) }) (by intro; rfl)).toOutletsWork
        · exact .refl s

theorem stopSessionAt_work (reason : Nat) : OutletWork x s (s.stopSessionAt x reason).state := by
  unfold State.stopSessionAt
  split
  · exact endAndSettle_work s x _
  · exact ordinaryStop_work s x _
  · exact ordinaryStop_work s x _
  · exact ordinaryStop_work s x _
  all_goals exact .refl x s

theorem stopSession_kept (data : List Byte) : Kept s (stopSessionCommand data s).state := by
  unfold stopSessionCommand
  split
  · exact .refl s
  · split
    · exact .refl s
    · split
      · exact .refl s
      · exact kept_of_work (stopSessionAt_work s _ _).toOutletsWork

theorem setCurtail_kept (data : List Byte) : Kept s (setCurtailCommand data s).state := by
  unfold setCurtailCommand
  dsimp only
  split
  · exact .refl s
  · split
    · exact .refl s
    · split
      · exact .refl s
      · exact ((kept_se s { s.se with origin := field data 0 1 } ⟨id, id⟩).trans (setView_kept _ _)).trans (placeFrame_kept _ _ _)

theorem siteHalt_kept (data : List Byte) : Kept s (siteHaltCommand data s).state := by
  unfold siteHaltCommand
  dsimp only
  split
  · exact .refl s
  · split
    · exact .refl s
    · exact originateHalt_kept s _ _

theorem clearCauses_kept (data : List Byte) : Kept s (clearCausesCommand data s).state := by
  unfold clearCausesCommand; split <;> exact kept_pk s _

theorem setMask_kept (data : List Byte) : Kept s (setMaskCommand data s).state := by
  unfold setMaskCommand; split <;> exact kept_pk s _

/-- The reading commands and IDENTIFY hand back the state as it is. -/
theorem reading_state (cmd : LinkCommand) (data : List Byte)
    (h : cmd = .identify ∨ cmd = .readSession ∨ cmd = .readView ∨ cmd = .readSettlement ∨ cmd = .readStatus) :
    (cmd.run data s).state = s := by
  obtain rfl | rfl | rfl | rfl | rfl := h <;> dsimp only [LinkCommand.run]
  · unfold identifyCommand; split <;> rfl
  · unfold readSessionCommand; split
    · rfl
    · split
      · rfl
      · split <;> rfl
  · unfold readViewCommand; split <;> rfl
  · unfold readSettlementCommand; split
    · rfl
    · split <;> rfl
  · unfold readStatusCommand; split <;> rfl

/-- R127 and R129: an accepted OPEN_SESSION finds a fitted outlet VACANT, a tariff active and a place free, and takes the counter's
value as the id. -/
structure Opened (s t : State) : Prop where
  opened : ∃ x data bank tariff, s.fitted x = true ∧ (s.outlet x).sc.state = .vacant ∧ s.ts.active = some bank ∧
    (s.ts.bank bank).tariff = some tariff ∧ s.sq.queue.length + s.sq.reserved < Config.queuePlaces ∧
    t = (s.bookSession x (s.newRecord x data bank tariff)).placeSession x

/-- OPEN_SESSION changes nothing, or opens a session. -/
theorem openSession_cases (data : List Byte) : (openSessionCommand data s).state = s ∨ Opened s (openSessionCommand data s).state := by
  unfold openSessionCommand
  split
  · exact .inl rfl
  · next x hx =>
    split
    · exact .inl rfl
    · unfold State.openSessionAt
      split
      · exact .inl rfl
      · split
        · exact .inl rfl
        · split
          · exact .inl rfl
          · next hfitted =>
            split
            · exact .inl rfl
            · next hstate =>
              split
              · exact .inl rfl
              · next bank hactive =>
                split
                · exact .inl rfl
                · next tariff htariff =>
                  split
                  · exact .inl rfl
                  · next hroom =>
                    exact .inr ⟨x, data, bank, tariff, eq_true_of_ne_false hfitted, not_not.1 fun h => hstate (.inl h), hactive,
                      htariff, Nat.not_le.1 hroom, rfl⟩

theorem bytesOf_two_field {data : List Byte} (h : data.length = 2) : bytesOf 2 (field data 0 2) = data := by
  obtain ⟨a, b, rfl⟩ := List.length_eq_two.1 h
  have ha : a.toNat < 256 := a.isLt
  have hb : b.toNat < 256 := b.isLt
  have value : field [a, b] 0 2 = a.toNat * 256 + b.toNat := by simp [field, natOfBytes]
  rw [value]
  simp only [bytesOf, pow_one, pow_zero, Nat.div_one]
  congr 1
  · apply BitVec.eq_of_toNat_eq; rw [BitVec.toNat_ofNat]; omega
  · congr 1; apply BitVec.eq_of_toNat_eq; rw [BitVec.toNat_ofNat]; omega

/-- R172: the head has been removed by a RELEASE_SETTLEMENT with its id, which is answered with the number of records left. -/
structure Released (s : State) (data : List Byte) (reply : Reply) : Prop where
  released : ∃ e rest, s.sq.queue = e :: rest ∧ data = bytesOf 2 e.record.id ∧
    reply = { state := { s with sq := { s.sq with queue := rest } }, status := .ok, data := bytesOf 1 rest.length }

theorem releaseSettlement_kept (data : List Byte) :
    Kept s (releaseSettlementCommand data s).state ∨ Released s data (releaseSettlementCommand data s) := by
  unfold releaseSettlementCommand
  split
  · exact .inl (.refl s)
  · next hlength =>
    split
    · exact .inl (.refl s)
    · next e rest hqueue =>
      split
      · next hid =>
        refine .inr ⟨e, rest, hqueue, ?_, rfl⟩
        rw [← hid, bytesOf_two_field (not_not.1 hlength)]
      · exact .inl (.refl s)

/-- An owner keeps what stands until a hard reset, opens a session, or releases the head of the queue. -/
theorem run_kept (cmd : LinkCommand) (data : List Byte) :
    Kept s (cmd.run data s).state ∨ Opened s (cmd.run data s).state ∨
      cmd = .releaseSettlement ∧ Released s data (cmd.run data s) := by
  have read := reading_state s cmd data
  cases cmd
  case configure => exact .inl (configure_kept s data)
  case setClock => exact .inl (setClock_kept s data)
  case restart => exact .inl (restart_kept s data)
  case loadTariff => exact .inl (loadTariff_kept s data)
  case openSession => exact (openSession_cases s data).imp (fun same => by rw [LinkCommand.run, same]; exact .refl s) .inl
  case demand => exact .inl (demand_kept s data)
  case stopSession => exact .inl (stopSession_kept s data)
  case setCurtail => exact .inl (setCurtail_kept s data)
  case siteHalt => exact .inl (siteHalt_kept s data)
  case releaseSettlement => exact (releaseSettlement_kept s data).imp_right fun h => .inr ⟨rfl, h⟩
  case clearCauses => exact .inl (clearCauses_kept s data)
  case setMask => exact .inl (setMask_kept s data)
  all_goals exact .inl (by rw [read (by simp)]; exact .refl s)

end

/-! ## Every command -/

theorem clockTick_kept (s : State) {t : State} (h : exec .clockTick s = .next t) : Kept s t := by
  simp only [exec, execClockTick, Config.daySeconds, Config.dayWrap] at h
  split at h <;> cases h
  · next hlast => exact kept_cf s _ ⟨rfl, fun _ => rfl, id, fun ⟨_, hd⟩ => ⟨hlast, hd⟩⟩
  · exact kept_cf s _ ⟨rfl, fun _ => rfl, id, fun _ => ⟨Nat.zero_lt_succ _, Nat.mod_lt _ (Nat.zero_lt_succ _)⟩⟩

theorem lineWork_kept {s t : State} (h : LineWork s t) : Kept s t := by
  rw [h]; exact kept_of_block (.refl _) ⟨id, id⟩

/-- Short of a hard reset a command keeps what stands, or it is a command of the link taken in this step that opens a session or
releases the head of the queue. -/
theorem exec_kept {s t : State} : ∀ c : Instr, exec c s = .next t → (∃ pins levels, c = .hardReset pins levels) ∨ Kept s t ∨
    ∃ cmd data p, s.LetsIn c (LinkCommand.code cmd) data ∧ p.hold = s.pk.hold ∧
      t = answeredBy cmd (cmd.run data { s with pk := p }) ∧
      (Opened { s with pk := p } (cmd.run data { s with pk := p }).state ∨
        cmd = .releaseSettlement ∧ Released { s with pk := p } data (cmd.run data { s with pk := p })) := by
  refine casesByBlock ?_ ?_ ?_ ?_ ?_ ?_ ?_ ?_ ?_ ?_ ?_ ?_ ?_
  · exact fun pins levels _ => .inl ⟨pins, levels, rfl⟩
  · exact fun h => .inr (.inl (clockTick_kept s h))
  · exact fun h => .inr (.inl (round_kept s h))
  · intro cell h
    refine .inr (.inl ?_)
    simp only [exec, execNumberClash] at h
    split at h
    · cases h; exact .refl s
    · split at h
      · cases h; exact clash_kept s
      · split at h
        · split at h <;> cases h
          · exact (kept_li s _).trans (clash_kept _)
          · exact .refl s
        all_goals cases h; exact .refl s
  · intro bytes h
    simp only [exec, execFrameEvaluation] at h
    split at h <;> cases h
    · exact .inr (.inl (takeFrame_kept s bytes))
    · exact .inr (.inl (.refl s))
  · intro h
    refine .inr (.inl ?_)
    simp only [exec, execHoldTimerExpiry] at h
    split at h
    · split at h <;> cases h
      · exact kept_pv s _
      · exact (kept_pv s _).trans (haltEnds_kept _)
    · cases h; exact .refl s
  · intro h
    refine .inr (.inl ?_)
    have asserted : Kept s { s with se := { s.se with tripInput := true } } := kept_se s _ ⟨id, id⟩
    simp only [exec, execSiteTripAsserted] at h
    split at h
    · cases h; exact .refl s
    · split at h <;> cases h
      · exact asserted.trans (tripBegins_kept _ _)
      · exact asserted
  · intro h
    simp only [exec, execSiteTripReleased] at h
    split at h <;> cases h
    · exact .inr (.inl (kept_se s _ ⟨id, fun ⟨ht, hf, _⟩ => ⟨ht, hf, Nat.zero_le _⟩⟩))
    · exact .inr (.inl (.refl s))
  · intro h
    simp only [exec, execEmergencyStopAsserted] at h
    split at h <;> cases h
    · exact .inr (.inl (.refl s))
    · exact .inr (.inl ((kept_estop s true).trans (kept_of_work (stopBoth_work _))))
  · intro h
    simp only [exec, execEmergencyStopReleased] at h
    split at h <;> cases h
    · exact .inr (.inl ((kept_estop s false).trans (kept_of_work
        ((releaseOutlet_work _ .a).toOutletsWork.trans (releaseOutlet_work _ .b).toOutletsWork))))
    · exact .inr (.inl (.refl s))
  · exact fun c hc h => .inr (.inl (lineWork_kept (exec_lineRow hc h)))
  · exact fun c x hc h => .inr (.inl (kept_of_work (exec_outletEvent hc h).toOutletsWork))
  · intro c hc h
    refine .inr ?_
    cases exec_linkStep hc h with
    | stays p => exact .inl (kept_pk s p)
    | takes cmd data p letsIn _ _ hold =>
      obtain kept | special := run_kept { s with pk := p } cmd data
      · exact .inl (((kept_pk s p).trans kept).trans (kept_pk _ _))
      · exact .inr ⟨cmd, data, p, letsIn, hold, rfl, special⟩

/-! ## What an opening or a release still keeps -/

theorem placeSession_work (s : State) (x : Outlet) : OutletWork x s (s.placeSession x) := by
  unfold State.placeSession
  split
  · exact (enter_work s x _).trans (modSc_work _ x _ (by intro; rfl))
  · split
    · exact (enter_work s x _).trans (modFlags_work _ x _)
    · exact connect_work s x

theorem bookSession_frame (s : State) (x : Outlet) (r : SessionRecord) :
    (s.bookSession x r).cf = s.cf ∧ (s.bookSession x r).se = s.se ∧ (s.bookSession x r).pending = s.pending ∧
      (s.bookSession x r).sq.queue = s.sq.queue ∧ (s.bookSession x r).nextId = nextSessionId s.nextId := by
  simp [State.bookSession]

theorem bookSession_range (s : State) (x : Outlet) (r : SessionRecord) (y : Outlet) (h : (s.outlet y).mu.InRange) :
    ((s.bookSession x r).outlet y).mu.InRange := by
  obtain ⟨hr, ho, hp, hd⟩ := h
  cases x <;> cases y <;>
    simp_all [State.bookSession, State.modMu, State.modSc, State.setOutlet, MeterOutlet.openWindow, MeterOutlet.InRange]

/-- Whether a session is opened or a record released, the configuration, the share engine and the queue of commands are as before. -/
theorem exec_frame {s t : State} {c : Instr} (h : exec c s = .next t) : (∃ pins levels, c = .hardReset pins levels) ∨
    ConfigKept s.cf t.cf ∧ SharingKept s.se t.se ∧ t.pending = s.pending ∧
      ∀ x, (s.outlet x).mu.InRange → (t.outlet x).mu.InRange := by
  obtain hreset | kept | ⟨cmd, data, p, -, -, rfl, opened | ⟨-, released⟩⟩ := exec_kept c h
  · exact .inl hreset
  · exact .inr ⟨kept.cf, kept.se, kept.pending, kept.range⟩
  · obtain ⟨x, data', bank, tariff, -, -, -, -, -, hstate⟩ := opened
    generalize State.newRecord _ x data' bank tariff = r at hstate
    have placed := placeSession_work (State.bookSession { s with pk := p } x r) x
    rw [← hstate] at placed
    obtain ⟨cf, se, pending, -⟩ := bookSession_frame { s with pk := p } x r
    refine .inr ⟨.of_eq (placed.cf.trans cf), .of_eq (placed.se.trans se), placed.pending.trans pending, fun y hy => ?_⟩
    · have range := placed.range y (bookSession_range _ x r y (by rwa [State.outlet_with_pk]))
      simpa [answeredBy, State.answered] using range
  · obtain ⟨e, rest, hqueue, -, hreply⟩ := released
    rw [hreply]
    exact .inr ⟨.refl _, .refl _, rfl, fun y hy => by cases y <;> exact hy⟩

/-- Settles O57: no command but a hard reset moves what stands. -/
theorem heldUntilHardReset : Obligations.HeldUntilHardReset := by
  intro s t c h
  obtain ⟨pins, levels, rfl⟩ | ⟨cf, se, pending, -⟩ := exec_frame h
  · cases h; exact ⟨rfl, .inl ⟨pins, levels, rfl⟩⟩
  · exact ⟨pending, .inr ⟨cf.straps, cf.config, cf.clockSet, se.barred⟩⟩

/-- The ranges of the second half of O52: a hard reset sets every figure to 0, and any other command keeps the ranges. -/
theorem exec_keeps_rangeLaw {s t : State} {c : Instr} (h : exec c s = .next t) (law : s.RangeLaw) : t.RangeLaw := by
  obtain ⟨hA, hB, hsecond, hday, htimer, hfailed, hrepeat⟩ := law
  obtain ⟨pins, levels, rfl⟩ | ⟨cf, se, -, range⟩ := exec_frame h
  · cases h
    have zero : ∀ o : OutletRecord, o.mu.residue = 0 → o.mu.overdraw = 0 → o.mu.windowPulse = 0 → o.mu.disagree = 0 → o.mu.InRange :=
      fun o h1 h2 h3 h4 => ⟨by rw [h1]; exact Nat.zero_lt_succ _, by rw [h2]; exact Nat.zero_le _, by rw [h3]; exact Nat.zero_lt_succ _,
        by rw [h4]; exact Nat.zero_le _⟩
    refine ⟨zero _ rfl rfl rfl rfl, ?_, Nat.zero_lt_succ _, Nat.zero_lt_succ _, Nat.zero_le _, Nat.zero_le _, Nat.zero_le _⟩
    dsimp only
    split <;> exact zero _ rfl rfl rfl rfl
  · obtain ⟨hsecond', hday'⟩ := cf.clock ⟨hsecond, hday⟩
    obtain ⟨htimer', hfailed', hrepeat'⟩ := se.counters ⟨htimer, hfailed, hrepeat⟩
    exact ⟨range .a hA, range .b hB, hsecond', hday', htimer', hfailed', hrepeat'⟩

/-- Settles O58: work appends at the tail, and the one command that takes a record away is RELEASE_SETTLEMENT. -/
theorem recordsLeaveByReleaseOnly : Obligations.RecordsLeaveByReleaseOnly := by
  intro s t c h
  obtain hreset | kept | ⟨cmd, data, p, letsIn, hold, rfl, opened | ⟨rfl, released⟩⟩ := exec_kept c h
  · exact .inl hreset
  · exact .inr (.inl kept.queue)
  · obtain ⟨x, data', bank, tariff, -, -, -, -, -, hstate⟩ := opened
    generalize State.newRecord _ x data' bank tariff = r at hstate
    have queue := (placeSession_work (State.bookSession { s with pk := p } x r) x).queue
    rw [← hstate, (bookSession_frame _ _ _).2.2.2.1] at queue
    exact .inr (.inl queue)
  · obtain ⟨e, rest, hqueue, hdata, hreply⟩ := released
    refine .inr (.inr ⟨e, rest, hqueue, ?_, hdata ▸ letsIn, ?_⟩)
    · rw [hreply]; rfl
    · rw [hreply]
      simp only [answeredBy, State.answered, LinkCommand.code, Status.code, hold]

theorem nextSessionId_range {id : Nat} (hlow : 1 ≤ id) (hhigh : id ≤ 65535) : 1 ≤ nextSessionId id ∧ nextSessionId id ≤ 65535 := by
  unfold nextSessionId; split <;> omega

theorem mem_openSessions {s : State} {x : Outlet} {r : SessionRecord} (h : (s.outlet x).sc.session = some r) : r ∈ s.openSessions := by
  cases x
  · exact List.mem_append_left _ (by rw [State.outlet_a] at h; simp [h])
  · exact List.mem_append_right _ (by rw [State.outlet_b] at h; simp [h])

/-- An opening moves the counter on, and the session that took its value is open or, settled at once, queued. -/
theorem opened_id {s t : State} (h : Opened s t) : t.nextId = nextSessionId s.nextId ∧
    ((∃ r ∈ t.openSessions, r.id = s.nextId) ∨ ∃ e ∈ t.sq.queue, e.record.id = s.nextId) := by
  obtain ⟨x, data, bank, tariff, -, -, -, -, -, rfl⟩ := h
  have hid : (s.newRecord x data bank tariff).id = s.nextId := rfl
  generalize s.newRecord x data bank tariff = r at hid
  have placed := placeSession_work (s.bookSession x r) x
  have session : ((s.bookSession x r).outlet x).sc.session = some r := by simp [State.bookSession]
  refine ⟨placed.nextId.trans (bookSession_frame _ _ _).2.2.2.2, ?_⟩
  obtain ⟨r', hr', hid'⟩ | queued := placed.session x r session
  · exact .inl ⟨r', mem_openSessions hr', hid'.trans hid⟩
  · exact .inr (hid ▸ queued)

/-- A RESTART taken on a free link keeps the id counter. -/
theorem exec_restart_nextId {s t : State} {data : List Byte} (hfree : s.linkFree) (h : exec (.restart data) s = .next t) :
    t.nextId = s.nextId := by
  have answered : exec (.restart data) s = .next (answeredBy .restart (restartCommand data s)) :=
    congrArg Host.Outcome.next (offerCommand_code_of_linkFree hfree .restart data)
  rw [answered] at h
  injection h with h
  rw [← h]
  exact (restart_kept s data).nextId

theorem exec_hardReset_nextId {s t : State} {pins : StrapPins} {levels : InputLevels} (h : exec (.hardReset pins levels) s = .next t) :
    t.nextId = 1 := by
  injection h with h; rw [← h]

/-- Settles O59: the counter moves at an opening only, whose session carries the counter's old value. -/
theorem sessionIds : Obligations.SessionIds := by
  intro s t c hlow hhigh h
  obtain ⟨pins, levels, rfl⟩ | kept | ⟨cmd, data, p, letsIn, hold, rfl, opened | ⟨rfl, released⟩⟩ := exec_kept c h
  · cases h
    refine ⟨Nat.le_refl 1, Nat.succ_le_succ (Nat.zero_le _), fun _ _ _ => rfl, fun data hc => (by cases hc), fun hc => absurd rfl (hc pins levels)⟩
  · refine ⟨by rwa [kept.nextId], by rwa [kept.nextId], fun pins levels hc => ?_, fun _ _ _ => kept.nextId, fun _ => .inl kept.nextId⟩
    subst hc; exact exec_hardReset_nextId h
  · obtain ⟨hnext, hid⟩ := opened_id opened
    have range := nextSessionId_range hlow hhigh
    have next : (answeredBy cmd (cmd.run data { s with pk := p })).nextId = nextSessionId s.nextId := hnext
    refine ⟨by rw [next]; exact range.1, by rw [next]; exact range.2, fun pins levels hc => ?_, fun data' hc hfree => ?_,
      fun _ => .inr ⟨next, hid⟩⟩
    · subst hc; exact exec_hardReset_nextId h
    · subst hc; exact exec_restart_nextId hfree h
  · obtain ⟨e, rest, -, -, hreply⟩ := released
    have next : (answeredBy .releaseSettlement (LinkCommand.run .releaseSettlement data { s with pk := p })).nextId = s.nextId := by
      rw [hreply]; rfl
    refine ⟨by rwa [next], by rwa [next], fun pins levels hc => ?_, fun _ _ _ => next, fun _ => .inl next⟩
    subst hc; exact exec_hardReset_nextId h

end Sys2Proof.Proofs.StationWork
end

section
/-! The orders above 0: an operation at an outlet gives the order of 0, or keeps the order and, with an order above 0 in ENERGISING, the
outlet in ENERGISING (R60, R132). -/

namespace Sys2Proof.Proofs.StandingOrders

open Machine OutletOperations OutletEvents StationWork

/-! ## The ordered ceiling after each operation -/

section
variable (s : State) (x : Outlet)

theorem modSp_ordered (f : StageOutlet → StageOutlet) (h : ∀ o, (f o).ordered = o.ordered) :
    ((s.modSp x f).outlet x).sp.ordered = (s.outlet x).sp.ordered := by
  rw [State.modSp_same]; exact h _

theorem commandOpen_ordered : ((s.commandOpen x).outlet x).sp.ordered = 0 := by
  have zero : ((s.order x 0).outlet x).sp.ordered = 0 := s.order_ordered x 0
  unfold State.commandOpen
  dsimp only
  generalize s.order x 0 = t at *
  have kept : ∀ f, (∀ o, (f o).ordered = o.ordered) → ((t.modSp x f).outlet x).sp.ordered = 0 := fun f hf =>
    (modSp_ordered t x f hf).trans zero
  split
  · split
    · exact kept _ (by intro; rfl)
    · rw [State.contactorOpened_sp]; exact kept _ (by intro; rfl)
  · split
    · exact kept _ (by intro; rfl)
    · rw [State.contactorOpened_sp]; exact kept _ (by intro; rfl)
  · exact kept _ (by intro; rfl)
  · rw [State.contactorOpened_sp]; exact kept _ (by intro; rfl)
  · exact zero

theorem openStep_ordered : ((s.openStep x).outlet x).sp.ordered = 0 := commandOpen_ordered _ x

theorem ordinaryStop_ordered (reason : Nat) : ((s.ordinaryStop x reason).outlet x).sp.ordered = 0 := by
  unfold State.ordinaryStop
  dsimp only
  split
  · exact openStep_ordered _ x
  · exact (modSp_ordered _ x _ (by intro; rfl)).trans (State.order_ordered _ x 0)

theorem quickStop_ordered (reason : Nat) : ((s.quickStop x reason).outlet x).sp.ordered = 0 := openStep_ordered _ x

end

/-! ## Calm operations -/

/-- The order is 0, or it stands as before and does not outlive ENERGISING. -/
def Calm (x : Outlet) (s t : State) : Prop :=
  (t.outlet x).sp.ordered = 0 ∨
    (t.outlet x).sp.ordered = (s.outlet x).sp.ordered ∧ ((s.outlet x).sc.state = .energising → (t.outlet x).sc.state = .energising)

theorem Calm.refl (x : Outlet) (s : State) : Calm x s s := .inr ⟨rfl, id⟩

theorem Calm.trans {x : Outlet} {s t u : State} (h : Calm x s t) (g : Calm x t u) : Calm x s u := by
  obtain zero | ⟨same, kept⟩ := g
  · exact .inl zero
  · obtain zero | ⟨same', kept'⟩ := h
    · exact .inl (same.trans zero)
    · exact .inr ⟨same.trans same', kept ∘ kept'⟩

section
variable {s t : State} {x : Outlet}

/-- An operation on another block, or on another outlet. -/
theorem calm_of_outlet_eq (h : t.outlet x = s.outlet x) : Calm x s t := .inr ⟨by rw [h], by rw [h]; exact id⟩

/-- An operation outside ENERGISING that gives no order. -/
theorem calm_of_not_energising (hsp : (t.outlet x).sp = (s.outlet x).sp) (h : (s.outlet x).sc.state ≠ .energising) : Calm x s t :=
  .inr ⟨by rw [hsp], fun e => absurd e h⟩

theorem Calm.of_zero (h : Calm x s t) (zero : (s.outlet x).sp.ordered = 0) : (t.outlet x).sp.ordered = 0 := by
  obtain hz | ⟨same, -⟩ := h
  · exact hz
  · exact same.trans zero

end

section
variable (s : State) (x : Outlet)

theorem modSp_calm (f : StageOutlet → StageOutlet) (h : ∀ o, (f o).ordered = o.ordered) : Calm x s (s.modSp x f) :=
  .inr ⟨modSp_ordered s x f h, by rw [State.modSp_sc]; exact id⟩

theorem modMu_calm (f : MeterOutlet → MeterOutlet) : Calm x s (s.modMu x f) :=
  .inr ⟨by rw [State.modMu_sp], by rw [State.modMu_sc]; exact id⟩

theorem modSc_calm (f : SessionOutlet → SessionOutlet) (h : ∀ c, (f c).state = c.state) : Calm x s (s.modSc x f) :=
  .inr ⟨by rw [State.modSc_sp], by rw [State.modSc_same]; exact fun e => (h _).trans e⟩

theorem modSession_calm (f : SessionRecord → SessionRecord) : Calm x s (s.modSession x f) := modSc_calm s x _ fun _ => rfl

theorem modFlags_calm (f : SessionFlags → SessionFlags) : Calm x s (s.modFlags x f) := modSession_calm s x _

theorem endWith_calm (reason : Nat) : Calm x s (s.endWith x reason) := modSession_calm s x _

theorem order_zero_calm : Calm x s (s.order x 0) := .inl (s.order_ordered x 0)

theorem enter_calm (st : OutletState) (h : (s.outlet x).sc.state ≠ .energising) : Calm x s (s.enter x st) :=
  calm_of_not_energising (s.enter_sp x x st) h

theorem settle_calm (h : (s.outlet x).sc.state ≠ .energising) : Calm x s (s.settle x) :=
  calm_of_not_energising (s.settle_sp x x) h

theorem endAndSettle_calm (reason : Nat) (h : (s.outlet x).sc.state ≠ .energising) : Calm x s (s.endAndSettle x reason) :=
  calm_of_not_energising (s.endAndSettle_sp x x reason) h

theorem contactorOpened_calm : Calm x s (s.contactorOpened x) := by
  by_cases h : (s.outlet x).sc.state = .energising
  · have same : s.contactorOpened x = s := by rw [State.contactorOpened, h]
    rw [same]; exact .refl x s
  · exact calm_of_not_energising (s.contactorOpened_sp x x) h

theorem commandClose_calm : Calm x s (s.commandClose x) := by
  unfold State.commandClose
  split
  · exact modSp_calm s x _ (by intro; rfl)
  · exact modSp_calm s x _ (by intro; rfl)
  all_goals exact .refl x s

theorem ordinaryStop_calm (reason : Nat) : Calm x s (s.ordinaryStop x reason) := .inl (ordinaryStop_ordered s x reason)

theorem quickStop_calm (reason : Nat) : Calm x s (s.quickStop x reason) := .inl (quickStop_ordered s x reason)

theorem endRampDown_calm : Calm x s (s.endRampDown x) := by
  unfold State.endRampDown
  split
  · exact .inl (openStep_ordered s x)
  · exact .refl x s

theorem openConfirmed_calm : Calm x s (s.openConfirmed x) := by
  refine ((modSp_calm s x (fun o => { o.confirmOpen with pendingClose := false }) (by intro; rfl)).trans (contactorOpened_calm _ x)).trans ?_
  unfold State.openConfirmed
  dsimp only
  generalize (s.modSp x fun o => { o.confirmOpen with pendingClose := false }).contactorOpened x = t
  have ended : Calm x t (if (s.outlet x).sp.isConfirmed = false ∧ (s.outlet x).sp.ordered = 0 then t.endRampDown x else t) := by
    split
    · exact endRampDown_calm t x
    · exact .refl x t
  by_cases h : (s.outlet x).sp.pendingClose = true
  · rw [if_pos h]; exact ended.trans (commandClose_calm _ x)
  · rw [if_neg h]; exact ended

theorem connect_calm (h : (s.outlet x).sc.state ≠ .energising) : Calm x s (s.connect x) := by
  unfold State.connect
  split
  · exact ordinaryStop_calm s x _
  · exact (enter_calm s x _ h).trans (commandClose_calm _ x)

/-- A weld suspected in ENERGISING gives the order of 0 (log entry 24). -/
theorem weldSuspect_calm : Calm x s (s.weldSuspect x) := by
  have tail : ∀ t : State, ((((t.modFlags x fun f => { f with weldSuspect := true }).settleRecord x).enter x .outOfService).outlet x).sp =
      (t.outlet x).sp := fun t => by simp
  by_cases h : (s.outlet x).sc.state = .energising
  · have zero : ((s.weldSuspect x).outlet x).sp.ordered = 0 := by
      unfold State.weldSuspect
      rw [h]
      dsimp only
      rw [tail]
      exact State.order_ordered _ x 0
    exact .inl zero
  · refine calm_of_not_energising ?_ h
    unfold State.weldSuspect
    dsimp only
    rw [tail]
    split
    case h_3 e => exact absurd e h
    all_goals first | rfl | exact s.endWith_sp x x _

theorem weld_calm : Calm x s (s.weld x) := (modSp_calm s x _ (by intro; rfl)).trans (weldSuspect_calm _ x)

theorem testCaps_calm : Calm x s (s.testCaps x) := by
  unfold State.testCaps
  split
  · split
    · exact ordinaryStop_calm s x _
    · exact .refl x s
  · exact .refl x s

theorem deliver_calm (wh minute : Nat) : Calm x s (s.deliver x wh minute) := by
  unfold State.deliver
  split
  · exact .refl x s
  · dsimp only
    split
    · exact testCaps_calm s x
    · split
      · exact .inl (ordinaryStop_ordered _ x _)
      · exact (modSession_calm s x _).trans (testCaps_calm _ x)

theorem suspend_calm : Calm x s (s.suspend x) := by
  unfold State.suspend
  split
  · exact .inl (commandOpen_ordered _ x)
  · exact .inl (commandOpen_ordered _ x)
  all_goals exact .refl x s

theorem resume_calm : Calm x s (s.resume x) := by
  unfold State.resume
  split
  · next h => exact connect_calm s x (by rw [h.1]; decide)
  · exact .refl x s

theorem clashOutlet_calm : Calm x s (s.clashOutlet x) := by
  unfold State.clashOutlet
  split
  · exact quickStop_calm s x _
  · exact quickStop_calm s x _
  · exact quickStop_calm s x _
  · exact (endWith_calm s x _).trans (endRampDown_calm _ x)
  · next h => exact endAndSettle_calm s x _ (by rw [h]; decide)
  · next h => exact endAndSettle_calm s x _ (by rw [h]; decide)
  · exact .refl x s
  · exact .refl x s

/-! ## The events of one outlet -/

theorem testOverdraw_calm (p inForce : Nat) (counting : Bool) : Calm x s (s.testOverdraw x p inForce counting) := by
  unfold State.testOverdraw
  dsimp only
  split
  · split
    · exact modMu_calm s x _
    · exact .inl (ordinaryStop_ordered _ x _)
  · exact modMu_calm s x _

theorem handCarry_calm (wh : Nat) : Calm x s (s.handCarry x wh) := by
  unfold State.handCarry
  split
  · exact .refl x s
  · split
    · exact deliver_calm s x _ _
    · exact modMu_calm s x _

theorem meterSample_calm (v i : Nat) (saturated : Bool) : Calm x s (s.meterSample x v i saturated) := by
  have sums : Calm x s (s.modMu x fun m => { m with powerSum := m.powerSum + v * i, sampleCount := m.sampleCount + 1 }) :=
    modMu_calm s x _
  unfold State.meterSample
  dsimp only
  refine .trans ?_ (testOverdraw_calm _ x _ _ _)
  split
  · refine .trans ?_ ((modMu_calm _ x _).trans (handCarry_calm _ x _))
    split
    · exact sums.trans (modFlags_calm _ x _)
    · exact sums
  · exact sums

theorem raise_calm (c : Cause) : Calm x s (s.raise c) := calm_of_outlet_eq (s.raise_outlet x c)

theorem countPulse_calm (weight : Nat) : Calm x s (s.countPulse x weight) := by
  refine (modMu_calm s x fun m => { m with windowPulse := m.windowPulse + weight }).trans ?_
  unfold State.countPulse
  dsimp only
  generalize (s.modMu x fun m => { m with windowPulse := m.windowPulse + weight }) = t
  unfold State.closeCrossCheck
  dsimp only
  split
  · split
    · exact modMu_calm t x _
    · split
      · exact modMu_calm t x _
      · exact ((modMu_calm t x _).trans (modFlags_calm _ x _)).trans (raise_calm _ x _)
  · exact .refl x t

theorem contactorClosed_calm : Calm x s (s.contactorClosed x) := by
  unfold State.contactorClosed
  split
  · next h => exact enter_calm s x _ (by rw [h]; decide)
  · exact .refl x s

theorem contactorDrop_calm : Calm x s (s.contactorDrop x) := by
  unfold State.contactorDrop
  split
  · exact ordinaryStop_calm s x _
  · exact endRampDown_calm s x

theorem contactorFault_calm : Calm x s (s.contactorFault x) := by
  unfold State.contactorFault
  split
  · exact quickStop_calm s x _
  · exact endRampDown_calm s x

end

theorem exec_outletEvent_calm {s t : State} {x : Outlet} {c : Instr} (hc : c.outletEvent = some x) (h : exec c s = .next t) :
    Calm x s t := by
  cases c <;> cases hc
  case sample =>
    simp only [exec, execSample] at h
    split at h <;> cases h
    · exact meterSample_calm s x _ _ _
    · exact .refl x s
  case settled =>
    simp only [exec, execSettled] at h
    split at h <;> cases h
    · exact (modSp_calm s x _ (by intro; rfl)).trans (endRampDown_calm _ x)
    · exact .refl x s
  case orderTimerExpiry =>
    simp only [exec, execOrderTimerExpiry] at h
    split at h
    · split at h <;> cases h
      · exact .inl (quickStop_ordered _ x _)
      · exact (modSp_calm s x (fun o => { o with orderTimer := .expired }) (by intro; rfl)).trans (endRampDown_calm _ x)
    · cases h; exact .refl x s
  case feedbackClosed =>
    have recorded : Calm x s (s.modSp x fun o => { o with feedbackClosed := true }) := modSp_calm s x _ (by intro; rfl)
    simp only [exec, execFeedbackClosed] at h
    split at h
    · split at h <;> cases h
      · exact (recorded.trans (modSp_calm _ x (fun o => { o with contactor := .closed, contactorTimer := false }) (by intro; rfl))).trans
          (contactorClosed_calm _ x)
      · exact recorded.trans (weld_calm _ x)
      all_goals exact recorded
    · cases h; exact .refl x s
  case feedbackOpen =>
    have recorded : Calm x s (s.modSp x fun o => { o with feedbackClosed := false }) := modSp_calm s x _ (by intro; rfl)
    simp only [exec, execFeedbackOpen] at h
    split at h
    · split at h <;> cases h
      · exact recorded.trans (openConfirmed_calm _ x)
      · exact ((recorded.trans (order_zero_calm _ x)).trans (openConfirmed_calm _ x)).trans (contactorDrop_calm _ x)
      all_goals exact recorded
    · cases h; exact .refl x s
  case contactorTimerExpiry =>
    simp only [exec, execContactorTimerExpiry] at h
    split at h
    · split at h <;> cases h
      · exact (openConfirmed_calm s x).trans (contactorFault_calm _ x)
      · exact weld_calm s x
      all_goals exact .refl x s
    · cases h; exact .refl x s
  case plugInserted =>
    have recorded : Calm x s (s.modSp x fun o => { o with plugPresent := true }) := modSp_calm s x _ (by intro; rfl)
    simp only [exec, execPlugInserted] at h
    split at h
    · split at h
      · next await =>
        have taken := recorded.trans (modSc_calm _ x (fun c => { c with awaitTimer := false }) (by intro; rfl))
        have waiting : ∀ u : State, (u.outlet x).sc.state = (s.outlet x).sc.state → (u.outlet x).sc.state ≠ .energising :=
          fun u hu => by rw [hu, await]; decide
        split at h <;> cases h
        · exact (taken.trans (enter_calm _ x _ (waiting _ (by simp)))).trans (modFlags_calm _ x _)
        · exact taken.trans (connect_calm _ x (waiting _ (by simp)))
      · cases h; exact recorded
    · cases h; exact .refl x s
  case plugRemoved =>
    have recorded : Calm x s (s.modSp x fun o => { o with plugPresent := false }) := modSp_calm s x _ (by intro; rfl)
    simp only [exec, execPlugRemoved] at h
    split at h
    · split at h <;> cases h
      · exact .inl (quickStop_ordered _ x _)
      · exact .inl (quickStop_ordered _ x _)
      · exact .inl (quickStop_ordered _ x _)
      · exact recorded.trans (endRampDown_calm _ x)
      · next idle => exact recorded.trans (settle_calm _ x (by rw [State.modSp_sc, idle]; decide))
      all_goals exact recorded
    · cases h; exact .refl x s
  case meterPulse =>
    have asserted : Calm x s (s.modMu x fun m => { m with pulseAsserted := true }) := modMu_calm s x _
    simp only [exec, execMeterPulse] at h
    split at h
    · split at h
      · cases h; exact asserted
      · split at h
        · split at h <;> cases h
          · exact (asserted.trans (deliver_calm _ x _ _)).trans (countPulse_calm _ x _)
          · exact asserted.trans (deliver_calm _ x _ _)
        · cases h; exact asserted
    · cases h; exact .refl x s
  case stageLost =>
    simp only [exec, execStageLost] at h
    split at h
    · split at h <;> cases h
      · exact .inl (quickStop_ordered _ x _)
      · exact modMu_calm s x _
    · cases h; exact .refl x s
  case noVehicle =>
    simp only [exec, execNoVehicle] at h
    split at h
    · next await => cases h; exact endAndSettle_calm s x _ (by rw [await.2]; decide)
    · cases h; exact .refl x s
  case idleMinute =>
    simp only [exec, execIdleMinute] at h
    split at h
    · split at h
      · cases h; exact .refl x s
      · split at h <;> cases h
        · exact .refl x s
        · exact modSession_calm s x _
    · cases h; exact .refl x s
  case pulseInputReleased =>
    simp only [exec, execPulseInputReleased] at h
    split at h <;> cases h
    · exact modMu_calm s x _
    · exact .refl x s

/-! ## Both outlets -/

/-- The figures of the share engine that the law of ceiling, claim and orders speaks of are the same. -/
structure SameFigures (e f : ShareEngine) : Prop where
  state : f.state = e.state
  cap : f.cap = e.cap
  ceiling : f.ceiling = e.ceiling
  claim : f.claim = e.claim

theorem SameFigures.of_eq {e f : ShareEngine} (h : f = e) : SameFigures e f := by subst h; exact ⟨rfl, rfl, rfl, rfl⟩

theorem SameFigures.trans {e f g : ShareEngine} (h : SameFigures e f) (k : SameFigures f g) : SameFigures e g :=
  ⟨k.state.trans h.state, k.cap.trans h.cap, k.ceiling.trans h.ceiling, k.claim.trans h.claim⟩

/-- Work that leaves the figures of the share engine, the hold, the straps and the configuration, and is calm at both outlets. -/
structure CalmStep (s t : State) : Prop where
  figures : SameFigures s.se t.se
  config : t.cf.config = s.cf.config
  straps : t.cf.straps = s.cf.straps
  halted : t.pv.isHalted = true → s.pv.isHalted = true
  orders : ∀ x, Calm x s t

theorem CalmStep.trans {s t u : State} (h : CalmStep s t) (g : CalmStep t u) : CalmStep s u :=
  ⟨h.figures.trans g.figures, g.config.trans h.config, g.straps.trans h.straps, h.halted ∘ g.halted, fun x => (h.orders x).trans (g.orders x)⟩

theorem CalmStep.refl (s : State) : CalmStep s s := ⟨.of_eq rfl, rfl, rfl, id, fun x => .refl x s⟩

/-- The calm work of one outlet. -/
theorem calmStep_of_work {s t : State} {x : Outlet} (work : OutletWork x s t) (calm : Calm x s t) : CalmStep s t := by
  refine ⟨.of_eq work.se, by rw [work.cf], by rw [work.cf], by rw [work.pv]; exact id, fun y => ?_⟩
  by_cases h : y = x
  · subst h; exact calm
  · exact calm_of_outlet_eq (work.other y h)

theorem orderZeroBoth_ordered (s : State) (x : Outlet) : (s.orderZeroBoth.outlet x).sp.ordered = 0 := by
  cases x
  · exact (congrArg (·.sp.ordered) ((s.order .a 0).order_other .b .a 0 (by decide))).trans (s.order_ordered .a 0)
  · exact (s.order .a 0).order_ordered .b 0

theorem suspendBoth_ordered (s : State) (h : ∀ x, (s.outlet x).sp.ordered = 0) (x : Outlet) :
    (((s.suspend .a).suspend .b).outlet x).sp.ordered = 0 :=
  (((calmStep_of_work (suspend_work s .a) (suspend_calm s .a)).trans
    (calmStep_of_work (suspend_work _ .b) (suspend_calm _ .b))).orders x).of_zero (h x)

/-- R34 and R78: a halt that begins leaves no order above 0. -/
theorem haltBegins_ordered (s : State) (x : Outlet) : (s.haltBegins.outlet x).sp.ordered = 0 :=
  suspendBoth_ordered _ (orderZeroBoth_ordered _) x

end Sys2Proof.Proofs.StandingOrders
end

section
/-! The steps of a round (R67): what each of them leaves unchanged, and the state that the first six leave for the last. -/

namespace Sys2Proof.Proofs.RoundSteps

open Machine OutletOperations StationWork

/-! ## What each step leaves unchanged -/

section
variable (s : State) (x : Outlet)

@[simp] theorem setView_frame (v : PeerView) :
    (s.setView v).cf = s.cf ∧ (s.setView v).li = s.li ∧ (s.setView v).pv = v ∧ (s.setView v).se = s.se ∧
    (s.setView v).outA = s.outA ∧ (s.setView v).outB = s.outB ∧ (s.setView v).estop = s.estop ∧
    (s.setView v).stageTx = s.stageTx ∧ (s.setView v).nextId = s.nextId ∧ (s.setView v).ts = s.ts ∧ (s.setView v).sq = s.sq ∧
    (s.setView v).pending = s.pending := by
  unfold State.setView; dsimp only; split <;> simp

/-- R31: CURTAIL is raised when the effective level is another than before. -/
@[simp] theorem setView_pk (v : PeerView) :
    (s.setView v).pk = { s.pk with edge := if v.level = s.pv.level then s.pk.edge else s.pk.edge ||| 0x10 } := by
  unfold State.setView; dsimp only; split
  · rfl
  · simp [Cause.index, BitVec.twoPow]

@[simp] theorem setView_outlet (v : PeerView) : (s.setView v).outlet x = s.outlet x := by
  cases x <;> simp

@[simp] theorem placeFrame_frame (k : FrameKind) (bytes : List Byte) :
    (s.placeFrame k bytes).cf = s.cf ∧ (s.placeFrame k bytes).pv = s.pv ∧ (s.placeFrame k bytes).se = s.se ∧
    (s.placeFrame k bytes).outA = s.outA ∧ (s.placeFrame k bytes).outB = s.outB ∧ (s.placeFrame k bytes).estop = s.estop ∧
    (s.placeFrame k bytes).stageTx = s.stageTx ∧ (s.placeFrame k bytes).nextId = s.nextId ∧ (s.placeFrame k bytes).ts = s.ts ∧
    (s.placeFrame k bytes).sq = s.sq ∧ (s.placeFrame k bytes).pk = s.pk ∧ (s.placeFrame k bytes).pending = s.pending := by
  unfold State.placeFrame; split <;> simp

@[simp] theorem placeFrame_outlet (k : FrameKind) (bytes : List Byte) : (s.placeFrame k bytes).outlet x = s.outlet x := by
  cases x <;> simp

/-- The share engine after the outcome is fixed, the timer raised and the state moved (R68, R69, R71 to R73). -/
def movedEngine (s : State) : ShareEngine :=
  s.se.fixOutcome.tick.transition ((s.cf.config.map Configuration.fallback).getD 0)

@[simp] theorem roundAgeing_frame :
    s.roundAgeing.cf = s.cf ∧ s.roundAgeing.li = s.li ∧ s.roundAgeing.se = s.se ∧
    s.roundAgeing.pv = { s.pv with peers := agePeers s.pv.peers, curtail := ageCurtail s.pv.curtail } ∧
    s.roundAgeing.outA = s.outA ∧ s.roundAgeing.outB = s.outB ∧ s.roundAgeing.estop = s.estop ∧
    s.roundAgeing.stageTx = s.stageTx ∧ s.roundAgeing.nextId = s.nextId ∧ s.roundAgeing.ts = s.ts ∧ s.roundAgeing.sq = s.sq ∧
    s.roundAgeing.pending = s.pending := by
  unfold State.roundAgeing; simp

@[simp] theorem roundAgeing_outlet : s.roundAgeing.outlet x = s.outlet x := setView_outlet s x _

@[simp] theorem roundState_frame :
    s.roundState.cf = s.cf ∧ s.roundState.li = s.li ∧ s.roundState.pv = s.pv ∧ s.roundState.se = movedEngine s ∧
    s.roundState.outA = s.outA ∧ s.roundState.outB = s.outB ∧ s.roundState.estop = s.estop ∧
    s.roundState.stageTx = s.stageTx ∧ s.roundState.nextId = s.nextId ∧ s.roundState.ts = s.ts ∧ s.roundState.sq = s.sq ∧
    s.roundState.pending = s.pending := by
  unfold State.roundState; dsimp only; split <;> simp [movedEngine]

/-- R77: SHARE is raised at a change of share state. -/
@[simp] theorem roundState_pk :
    s.roundState.pk = { s.pk with edge := if (movedEngine s).state = s.se.state then s.pk.edge else s.pk.edge ||| 0x04 } := by
  unfold State.roundState; dsimp only; rw [← movedEngine]; split
  · rfl
  · simp [Cause.index, BitVec.twoPow]

@[simp] theorem roundState_outlet : s.roundState.outlet x = s.outlet x := by cases x <;> simp

/-- Step 4 reaches C, K and the round figures alone. -/
theorem roundArithmetic_eq : s.roundArithmetic = { s with se := { s.se with
    ceiling := s.roundArithmetic.se.ceiling, claim := s.roundArithmetic.se.claim, figures := s.roundArithmetic.se.figures } } := by
  unfold State.roundArithmetic
  split
  · rfl
  · dsimp only
    split
    case h_5 => split <;> rfl
    all_goals rfl

@[simp] theorem roundArithmetic_frame :
    s.roundArithmetic.cf = s.cf ∧ s.roundArithmetic.li = s.li ∧ s.roundArithmetic.pv = s.pv ∧
    s.roundArithmetic.outA = s.outA ∧ s.roundArithmetic.outB = s.outB ∧ s.roundArithmetic.estop = s.estop ∧
    s.roundArithmetic.stageTx = s.stageTx ∧ s.roundArithmetic.nextId = s.nextId ∧ s.roundArithmetic.ts = s.ts ∧
    s.roundArithmetic.sq = s.sq ∧ s.roundArithmetic.pk = s.pk ∧ s.roundArithmetic.pending = s.pending := by
  rw [roundArithmetic_eq]; simp

@[simp] theorem roundArithmetic_outlet : s.roundArithmetic.outlet x = s.outlet x := by cases x <;> simp

@[simp] theorem giveCeiling_frame (c : Nat) :
    (s.giveCeiling x c).cf = s.cf ∧ (s.giveCeiling x c).li = s.li ∧ (s.giveCeiling x c).pv = s.pv ∧ (s.giveCeiling x c).se = s.se ∧
    (s.giveCeiling x c).estop = s.estop ∧ (s.giveCeiling x c).stageTx = (s.order x c).stageTx ∧
    (s.giveCeiling x c).nextId = s.nextId ∧ (s.giveCeiling x c).ts = s.ts ∧ (s.giveCeiling x c).sq = s.sq ∧
    (s.giveCeiling x c).pk = s.pk ∧ (s.giveCeiling x c).pending = s.pending := by
  unfold State.giveCeiling; dsimp only; split <;> simp

@[simp] theorem giveCeiling_sp (c : Nat) (y : Outlet) : ((s.giveCeiling x c).outlet y).sp = ((s.order x c).outlet y).sp := by
  unfold State.giveCeiling; dsimp only; split <;> simp

@[simp] theorem giveCeiling_mu (c : Nat) (y : Outlet) : ((s.giveCeiling x c).outlet y).mu = (s.outlet y).mu := by
  unfold State.giveCeiling; dsimp only; split <;> simp

theorem giveCeiling_other (c : Nat) (y : Outlet) (h : y ≠ x) : (s.giveCeiling x c).outlet y = s.outlet y :=
  (giveCeiling_work s x c).other y h

/-- R132: a session given less than its demand is marked REDUCED. -/
theorem giveCeiling_sc (c : Nat) : ((s.giveCeiling x c).outlet x).sc = { (s.outlet x).sc with
    session := (s.outlet x).sc.session.map fun r => { r with flags := { r.flags with
      reduced := r.flags.reduced || decide ((s.outlet x).sc.state = .energising ∧ c < (s.outlet x).sc.requested) } } } := by
  unfold State.giveCeiling
  dsimp only
  split
  · next h => simp [h]
  · next h => simp [h]

theorem giveCeiling_state (c : Nat) (y : Outlet) : ((s.giveCeiling x c).outlet y).sc.state = (s.outlet y).sc.state := by
  by_cases h : y = x
  · subst h; rw [giveCeiling_sc]
  · rw [giveCeiling_other s x c y h]

@[simp] theorem roundSplit_frame :
    s.roundSplit.cf = s.cf ∧ s.roundSplit.li = s.li ∧ s.roundSplit.pv = s.pv ∧ s.roundSplit.se = s.se ∧
    s.roundSplit.estop = s.estop ∧ s.roundSplit.nextId = s.nextId ∧ s.roundSplit.ts = s.ts ∧ s.roundSplit.sq = s.sq ∧
    s.roundSplit.pk = s.pk ∧ s.roundSplit.pending = s.pending := by
  unfold State.roundSplit; split <;> simp

@[simp] theorem roundSplit_mu : (s.roundSplit.outlet x).mu = (s.outlet x).mu := by
  unfold State.roundSplit; split <;> simp

@[simp] theorem roundSplit_state : (s.roundSplit.outlet x).sc.state = (s.outlet x).sc.state := by
  unfold State.roundSplit
  split
  · dsimp only; rw [giveCeiling_state, giveCeiling_state]
  · rfl

@[simp] theorem recordDraw_frame :
    (s.recordDraw x).cf = s.cf ∧ (s.recordDraw x).li = s.li ∧ (s.recordDraw x).pv = s.pv ∧ (s.recordDraw x).se = s.se ∧
    (s.recordDraw x).estop = s.estop ∧ (s.recordDraw x).stageTx = s.stageTx ∧ (s.recordDraw x).nextId = s.nextId ∧
    (s.recordDraw x).ts = s.ts ∧ (s.recordDraw x).sq = s.sq ∧ (s.recordDraw x).pk = s.pk ∧
    (s.recordDraw x).pending = s.pending := s.modMu_frame x _

@[simp] theorem recordDraw_sp (y : Outlet) : ((s.recordDraw x).outlet y).sp = (s.outlet y).sp := s.modMu_sp x y _

@[simp] theorem recordDraw_sc (y : Outlet) : ((s.recordDraw x).outlet y).sc = (s.outlet y).sc := s.modMu_sc x y _

@[simp] theorem roundAnnounce_frame :
    s.roundAnnounce.cf = s.cf ∧ s.roundAnnounce.pv = s.pv ∧
    s.roundAnnounce.outA = s.outA ∧ s.roundAnnounce.outB = s.outB ∧ s.roundAnnounce.estop = s.estop ∧
    s.roundAnnounce.stageTx = s.stageTx ∧ s.roundAnnounce.nextId = s.nextId ∧ s.roundAnnounce.ts = s.ts ∧
    s.roundAnnounce.sq = s.sq ∧ s.roundAnnounce.pk = s.pk ∧ s.roundAnnounce.pending = s.pending := by
  unfold State.roundAnnounce
  dsimp only
  split
  · simp
  · split <;> simp

/-- R63 and R68: the parity is inverted and the marker follows the ANNOUNCE. -/
@[simp] theorem roundAnnounce_se : s.roundAnnounce.se = { s.se with
    parity := !s.se.parity, frameBuilt := s.cf.config.isSome && s.se.state.active
    frameClaim := if s.cf.config.isSome && s.se.state.active then s.se.claim else s.se.frameClaim } := by
  unfold State.roundAnnounce
  dsimp only
  split
  · next h => simp [h]
  · next h =>
    split
    · next ha => simp [h, ha]
    · next ha => simp [h, ha]

@[simp] theorem roundAnnounce_outlet : s.roundAnnounce.outlet x = s.outlet x := by cases x <;> simp

end

/-! ## The round before it originates frames -/

/-- The first four steps: the tables aged, the share state moved, the arithmetic done. -/
def computed (s : State) : State := s.roundAgeing.roundState.roundArithmetic

/-- The first six steps. -/
def announced (s : State) : State := ((computed s).roundSplit.recordDraw .a).recordDraw .b |>.roundAnnounce

theorem exec_round (s : State) : exec .round s = .next (announced s).roundOriginate := rfl

section
variable (s : State) (x : Outlet)

@[simp] theorem computed_frame :
    (computed s).cf = s.cf ∧ (computed s).li = s.li ∧
    (computed s).pv = { s.pv with peers := agePeers s.pv.peers, curtail := ageCurtail s.pv.curtail } ∧
    (computed s).outA = s.outA ∧ (computed s).outB = s.outB ∧ (computed s).estop = s.estop ∧
    (computed s).stageTx = s.stageTx ∧ (computed s).nextId = s.nextId ∧ (computed s).ts = s.ts ∧ (computed s).sq = s.sq ∧
    (computed s).pending = s.pending := by
  simp [computed]

@[simp] theorem computed_outlet : (computed s).outlet x = s.outlet x := by cases x <;> simp

/-- The arithmetic leaves the share engine as its transition left it, but for C, K and the figures. -/
theorem computed_se : (computed s).se = { movedEngine s with
    ceiling := (computed s).se.ceiling, claim := (computed s).se.claim, figures := (computed s).se.figures } := by
  have moved : movedEngine s.roundAgeing = movedEngine s := by simp [movedEngine]
  have e := congrArg State.se (roundArithmetic_eq s.roundAgeing.roundState)
  rw [(roundState_frame s.roundAgeing).2.2.2.1, moved] at e
  exact e

@[simp] theorem announced_frame :
    (announced s).cf = s.cf ∧
    (announced s).pv = { s.pv with peers := agePeers s.pv.peers, curtail := ageCurtail s.pv.curtail } ∧
    (announced s).estop = s.estop ∧ (announced s).nextId = s.nextId ∧ (announced s).ts = s.ts ∧ (announced s).sq = s.sq ∧
    (announced s).pending = s.pending := by
  simp [announced]

@[simp] theorem announced_pk : (announced s).pk = (computed s).pk := by simp [announced]

@[simp] theorem announced_sp : ((announced s).outlet x).sp = ((computed s).roundSplit.outlet x).sp := by simp [announced]

@[simp] theorem announced_sc : ((announced s).outlet x).sc = ((computed s).roundSplit.outlet x).sc := by simp [announced]

@[simp] theorem announced_stageTx : (announced s).stageTx = (computed s).roundSplit.stageTx := by simp [announced]

theorem announced_se : (announced s).se = { (computed s).se with
    parity := !(computed s).se.parity, frameBuilt := s.cf.config.isSome && (computed s).se.state.active
    frameClaim := if s.cf.config.isSome && (computed s).se.state.active then (computed s).se.claim else (computed s).se.frameClaim } := by
  simp [announced]

end

end Sys2Proof.Proofs.RoundSteps
end

section
/-! The law of ceiling, claim and orders (R41, R54, R56 to R58, R60), and the law of the raise (R53): every command but a round keeps the
law and raises no ceiling, and a round computes figures that meet the law whatever stood before. -/

namespace Sys2Proof.Proofs.ShareLaw

open Machine SettlementQueue OutletOperations OutletEvents PedestalLink StationWork StandingOrders RoundSteps

/-! ## Work that keeps the law and raises no ceiling -/

/-- The fallback F, 0 before CONFIGURE. -/
abbrev fallbackOf (c : Option Configuration) : Nat := (c.map Configuration.fallback).getD 0

/-- The rated power P, 0 before CONFIGURE. -/
abbrev ratedOf (c : Option Configuration) : Nat := (c.map Configuration.rated).getD 0

/-- The law is kept, and the ceiling is no higher than before. -/
def Sound (s t : State) : Prop := s.ShareLaw → t.ShareLaw ∧ t.se.ceiling ≤ s.se.ceiling

theorem Sound.refl (s : State) : Sound s s := fun law => ⟨law, Nat.le_refl _⟩

theorem Sound.trans {s t u : State} (h : Sound s t) (g : Sound t u) : Sound s u := fun law =>
  ⟨(g (h law).1).1, (g (h law).1).2.trans (h law).2⟩

theorem sound_of_calm {s t : State} (h : CalmStep s t) : Sound s t := by
  rintro ⟨hCK, hKP, hFP, hunc, hnone, hzero, hjoin, hiso, hsum, hA, hB⟩
  obtain ⟨⟨hstate, hcap, hceiling, hclaim⟩, hconfig, hstraps, hhalted, horders⟩ := h
  have a := horders .a
  have b := horders .b
  simp only [Calm, State.outlet_a, State.outlet_b] at a b
  refine ⟨⟨?_, ?_, ?_, ?_, ?_, ?_, ?_, ?_, ?_, ?_, ?_⟩, hceiling.le⟩
  · rwa [hceiling, hclaim]
  · rwa [hclaim, hconfig]
  · rwa [hconfig]
  · rwa [hstate, hconfig]
  · rwa [hstate, hconfig]
  · rw [hstate, hclaim]
    exact fun h => hzero (h.imp_right (.imp_right hhalted))
  · rwa [hstate, hclaim, hceiling, hcap, hconfig]
  · rwa [hstate, hclaim, hceiling, hconfig]
  · rw [hceiling]; omega
  · intro h
    obtain zero | ⟨same, kept⟩ := a
    · exact absurd zero h
    · exact kept (hA (same ▸ h))
  · intro h
    obtain zero | ⟨same, kept⟩ := b
    · exact absurd zero h
    · obtain ⟨state, two⟩ := hB (same ▸ h)
      exact ⟨kept state, hstraps ▸ two⟩

/-- With C, K and both orders at 0 the law asks for the share state and the configuration only. -/
theorem shareLaw_of_silent {t : State} (hceiling : t.se.ceiling = 0) (hclaim : t.se.claim = 0)
    (horders : ∀ x, (t.outlet x).sp.ordered = 0) (hFP : fallbackOf t.cf.config ≤ ratedOf t.cf.config)
    (hunc : t.se.state = .unconfigured → t.cf.config = none)
    (hnone : t.cf.config = none → t.se.state = .unconfigured ∨ t.se.state = .barred)
    (hcap : t.se.state = .joining → t.se.cap ≤ fallbackOf t.cf.config) : t.ShareLaw := by
  have hA : t.outA.sp.ordered = 0 := horders .a
  have hB : t.outB.sp.ordered = 0 := horders .b
  refine ⟨by omega, by omega, hFP, hunc, hnone, fun _ => hclaim, fun h => ⟨by omega, by omega, hcap h⟩, fun _ => ⟨by omega, by omega⟩,
    by omega, fun h => absurd hA h, fun h => absurd hB h⟩

section
variable (s : State) (x : Outlet)

theorem work_sound {s t : State} {x : Outlet} (work : OutletWork x s t) (calm : Calm x s t) : Sound s t :=
  sound_of_calm (calmStep_of_work work calm)

/-- Work on figures that the law does not speak of. -/
theorem sound_of_block {s t : State} (figures : SameFigures s.se t.se := by exact ⟨rfl, rfl, rfl, rfl⟩)
    (config : t.cf.config = s.cf.config := by rfl) (straps : t.cf.straps = s.cf.straps := by rfl)
    (halted : t.pv.isHalted = true → s.pv.isHalted = true := by exact id)
    (hA : t.outA = s.outA := by rfl) (hB : t.outB = s.outB := by rfl) : Sound s t :=
  sound_of_calm ⟨figures, config, straps, halted, fun x => calm_of_outlet_eq (outlet_congr hA hB x)⟩

theorem setView_sound (v : PeerView) (h : v.hold = s.pv.hold) : Sound s (s.setView v) := by
  obtain ⟨hcf, -, hpv, hse, hA, hB, -⟩ := setView_frame s v
  exact sound_of_block (.of_eq hse) (by rw [hcf]) (by rw [hcf]) (by rw [hpv, PeerView.isHalted, h]; exact id) hA hB

theorem placeFrame_sound (k : FrameKind) (bytes : List Byte) : Sound s (s.placeFrame k bytes) := by
  obtain ⟨hcf, hpv, hse, hA, hB, -⟩ := placeFrame_frame s k bytes
  exact sound_of_block (.of_eq hse) (by rw [hcf]) (by rw [hcf]) (by rw [hpv]; exact id) hA hB

/-! ## Halts and the clash -/

theorem haltBegins_se : s.haltBegins.se = { s.se with ceiling := 0, claim := 0 } := by
  simp [State.haltBegins, State.orderZeroBoth, State.zeroCeiling]

theorem haltBegins_cf : s.haltBegins.cf = s.cf := by
  simp [State.haltBegins, State.orderZeroBoth, State.zeroCeiling]

theorem haltBegins_pv : s.haltBegins.pv = s.pv := by
  simp [State.haltBegins, State.orderZeroBoth, State.zeroCeiling]

/-- R78: a halt that begins, whatever the hold that begins it. -/
theorem haltBegins_sound (v : PeerView) : Sound s (State.haltBegins { s with pv := v }) := by
  rintro ⟨-, -, hFP, hunc, hnone, -, hjoin, -, -, -, -⟩
  have se := haltBegins_se { s with pv := v }
  have cf := haltBegins_cf { s with pv := v }
  refine ⟨shareLaw_of_silent (by rw [se]) (by rw [se]) (haltBegins_ordered _) ?_ ?_ ?_ ?_, by rw [se]; exact Nat.zero_le _⟩
  · rwa [cf]
  · rwa [cf, se]
  · rwa [cf, se]
  · rw [cf, se]; exact fun h => (hjoin h).2.2

theorem takeHalt_sound (source seconds reason : Nat) : Sound s (s.takeHalt source seconds reason) := by
  unfold State.takeHalt
  dsimp only
  split
  · exact sound_of_block
  · split
    · exact haltBegins_sound s _
    · next h => exact sound_of_block (halted := fun _ => by simp [PeerView.isHalted]; omega)

theorem originateHalt_sound (seconds reason : Nat) : Sound s (s.originateHalt seconds reason) :=
  (placeFrame_sound s _ _).trans (takeHalt_sound _ _ _ _)

theorem tripBegins_sound (k : Configuration) : Sound s (s.tripBegins k) := (originateHalt_sound s _ _).trans sound_of_block

theorem retrip_sound : Sound s s.retrip := by
  unfold State.retrip
  split
  · split
    · exact tripBegins_sound s _
    · exact .refl s
  · exact .refl s

theorem haltEnds_sound : Sound s s.haltEnds :=
  (work_sound (resume_work s .a) (resume_calm s .a)).trans (work_sound (resume_work _ .b) (resume_calm _ .b))

/-- R75: a clash leaves the station BARRED with C, K and both orders at 0. -/
theorem clash_sound : Sound s s.clash := by
  rintro ⟨-, -, hFP, -, -, -, -, -, -, -, -⟩
  have forced : s.clash.se = { s.se with state := .barred, ceiling := 0, claim := 0, timer := 0, failed := 0 } ∧ s.clash.cf = s.cf := by
    simp [State.clash, State.orderZeroBoth]
  obtain ⟨se, cf⟩ := forced
  have ended : ∀ t : State, (∀ x, (t.outlet x).sp.ordered = 0) → ∀ x, (((t.clashOutlet .a).clashOutlet .b).outlet x).sp.ordered = 0 :=
    fun t h x => (((calmStep_of_work (clashOutlet_work t .a) (clashOutlet_calm t .a)).trans
      (calmStep_of_work (clashOutlet_work _ .b) (clashOutlet_calm _ .b))).orders x).of_zero (h x)
  have orders : ∀ x, (s.clash.outlet x).sp.ordered = 0 :=
    ended _ fun x => by rw [State.raise_outlet]; exact orderZeroBoth_ordered _ x
  refine ⟨shareLaw_of_silent (by rw [se]) (by rw [se]) orders (by rwa [cf]) ?_ ?_ ?_, by rw [se]; exact Nat.zero_le _⟩
  · rw [se]; exact fun h => by cases h
  · rw [se]; exact fun _ => .inr rfl
  · rw [se]; exact fun h => by cases h

theorem handFrame_sound (kind : FrameKind) (station : Nat) (payload : List Byte) : Sound s (s.handFrame kind station payload) := by
  unfold State.handFrame
  split
  · exact setView_sound s _ rfl
  · exact setView_sound s _ rfl
  · exact takeHalt_sound s _ _ _

theorem takeFrame_sound (bytes : List Byte) : Sound s (s.takeFrame bytes) := by
  have rejected : Sound s { s with li := s.li.frameEnds bytes false } := sound_of_block
  unfold State.takeFrame
  dsimp only
  split
  · exact rejected
  · exact rejected
  · exact rejected.trans (clash_sound _)
  · exact rejected.trans (sound_of_block (t := State.lineFault _ _))
  · exact Sound.trans sound_of_block (handFrame_sound _ _ _ _)

/-! ## The emergency stop and the service restart -/

theorem quietOpen_ordered (o : StageOutlet) : o.quietOpen.ordered = o.ordered := by
  unfold StageOutlet.quietOpen
  split
  · split <;> rfl
  · split <;> rfl
  all_goals rfl

theorem unweld_ordered (o : StageOutlet) : o.unweld.ordered = o.ordered := by
  unfold StageOutlet.unweld; split <;> rfl

/-- An outlet that is not fitted has no order above 0, so the stop and the restart leave none at either outlet. -/
theorem ordered_of_not_fitted {s : State} (law : s.ShareLaw) {x : Outlet} (h : s.fitted x ≠ true) : (s.outlet x).sp.ordered = 0 := by
  obtain ⟨-, -, -, -, -, -, -, -, -, -, hB⟩ := law
  cases x with
  | a => exact absurd rfl h
  | b =>
    by_contra above
    exact h (hB above).2

theorem fitted_of_cf {s t : State} (h : t.cf = s.cf) (x : Outlet) : t.fitted x = s.fitted x := by
  cases x
  · rfl
  · exact congrArg (·.straps.twoOutlets) h

/-- A stage step that gives each fitted outlet an order of 0, outlet A first. -/
theorem bothStages_ordered {f : State → Outlet → State} (hwork : ∀ u x, OutletWork x u (f u x))
    (hzero : ∀ u x, State.fitted u x = true → ((f u x).outlet x).sp.ordered = 0) {s : State}
    (habsent : ∀ x, s.fitted x ≠ true → (s.outlet x).sp.ordered = 0 ∧ f s x = s ∧ f (f s .a) x = f s .a) (x : Outlet) :
    ((f (f s .a) .b).outlet x).sp.ordered = 0 := by
  cases x with
  | a => rw [(hwork _ .b).other .a (by decide)]; exact hzero s .a rfl
  | b =>
    by_cases h : s.fitted .b = true
    · exact hzero _ .b (by rwa [fitted_of_cf (hwork s .a).cf])
    · obtain ⟨zero, -, same⟩ := habsent .b h
      rw [same, (hwork s .a).other .b (by decide)]; exact zero

theorem stopStage_absent (h : s.fitted x ≠ true) : s.stopStage x = s := by
  unfold State.stopStage; rw [if_neg h]

theorem restartStage_absent (h : s.fitted x ≠ true) : s.restartStage x = s := by
  unfold State.restartStage; rw [if_neg h]

theorem stopStages_ordered (law : s.ShareLaw) : (((s.stopStage .a).stopStage .b).outlet x).sp.ordered = 0 := by
  refine bothStages_ordered stopStage_work (fun u y hy => ?_) (fun y hy => ?_) x
  · unfold State.stopStage
    rw [if_pos hy, State.modSp_same]
    exact (quietOpen_ordered _).trans (u.order_ordered y 0)
  · exact ⟨ordered_of_not_fitted law hy, stopStage_absent s y hy,
      stopStage_absent _ y (by rwa [fitted_of_cf (stopStage_work s .a).cf])⟩

theorem restartStages_ordered (law : s.ShareLaw) : (((s.restartStage .a).restartStage .b).outlet x).sp.ordered = 0 := by
  refine bothStages_ordered restartStage_work (fun u y hy => ?_) (fun y hy => ?_) x
  · unfold State.restartStage
    rw [if_pos hy, State.modSp_same]
    exact ((unweld_ordered _).trans (quietOpen_ordered _)).trans (u.order_ordered y 0)
  · exact ⟨ordered_of_not_fitted law hy, restartStage_absent s y hy,
      restartStage_absent _ y (by rwa [fitted_of_cf (restartStage_work s .a).cf])⟩

@[simp] theorem stopOutlet_sp (y : Outlet) : ((s.stopOutlet x).outlet y).sp = (s.outlet y).sp := by
  have opening : ((s.stopOpening x).outlet y).sp = (s.outlet y).sp := by
    unfold State.stopOpening; split <;> simp
  unfold State.stopOutlet
  split
  case h_8 => split <;> simp
  all_goals first | exact opening | simp

@[simp] theorem restartOutlet_sp (y : Outlet) : ((s.restartOutlet x).outlet y).sp = (s.outlet y).sp := by
  unfold State.restartOutlet; split <;> simp

theorem stopBoth_sound : Sound s ((((s.stopStage .a).stopStage .b).stopOutlet .a).stopOutlet .b) := by
  intro law
  have work := stopBoth_work s
  refine sound_of_calm ⟨.of_eq work.se, by rw [work.cf], by rw [work.cf], by rw [work.pv]; exact id, fun x => .inl ?_⟩ law
  rw [stopOutlet_sp, stopOutlet_sp]
  exact stopStages_ordered s x law

theorem releaseOutlet_calm : Calm x s (s.releaseOutlet x) := by
  unfold State.releaseOutlet
  split
  · have unwelded := modSp_calm s x StageOutlet.unweld unweld_ordered
    dsimp only
    split
    · next h => exact unwelded.trans (enter_calm _ x _ (by rw [h.2.1]; decide))
    · exact unwelded
  · exact .refl x s

theorem restart_se (e : ShareEngine) : e.restart.ceiling = 0 ∧ e.restart.claim = 0 ∧
    (e.restart.state = .unconfigured ↔ e.state = .unconfigured) ∧ (e.restart.state = .barred ↔ e.state = .barred) ∧
    (e.restart.state = .joining → e.restart.cap = 0) := by
  unfold ShareEngine.restart
  cases e.state <;> simp

theorem serviceRestart_sound : Sound s s.serviceRestart := by
  unfold State.serviceRestart
  dsimp only
  refine .trans (fun law => ?_) (retrip_sound _)
  have work := restartBoth_work s
  have orders : ∀ x, (((((s.restartStage .a).restartStage .b).restartOutlet .a).restartOutlet .b).outlet x).sp.ordered = 0 := fun x => by
    rw [restartOutlet_sp, restartOutlet_sp]; exact restartStages_ordered s x law
  generalize (((s.restartStage .a).restartStage .b).restartOutlet .a).restartOutlet .b = t at work orders
  obtain ⟨hceiling, hclaim, hunc', hbar', hcap⟩ := restart_se t.se
  obtain ⟨-, -, hFP, hunc, hnone, -, -, -, -, -, -⟩ := law
  refine ⟨shareLaw_of_silent hceiling hclaim (fun x => ?_) ?_ ?_ ?_ ?_, hceiling.trans_le (Nat.zero_le _)⟩
  · cases x
    · exact orders .a
    · exact orders .b
  · rwa [work.cf]
  · rw [work.cf]; exact fun h => hunc (by rw [← work.se]; exact hunc'.1 h)
  · rw [work.cf, hunc', hbar', work.se]; exact hnone
  · intro h; rw [hcap h]; exact Nat.zero_le _

/-! ## The owners of the link's commands -/

/-- R195: at its acceptance the configuration finds C, K and the orders at 0, and UNCONFIGURED enters JOINING with cap 0. -/
theorem acceptConfiguration_sound (k : Configuration) (hvalid : k.fallback ≤ k.rated) (hconfig : s.cf.config = none) :
    Sound s (s.acceptConfiguration k) := by
  unfold State.acceptConfiguration
  dsimp only
  refine .trans (fun law => ?_) (retrip_sound _)
  obtain ⟨hCK, -, -, hunc, hnone, hzero, -, -, hsum, -, -⟩ := law
  have hclaim : s.se.claim = 0 := hzero ((hnone hconfig).imp_right .inl)
  have hceiling : s.se.ceiling = 0 := Nat.le_zero.1 (hclaim ▸ hCK)
  generalize hu : State.setView { s with cf := { s.cf with config := some k } } (s.pv.restrict k.population) = u
  have frame := setView_frame { s with cf := { s.cf with config := some k } } (s.pv.restrict k.population)
  rw [hu] at frame
  obtain ⟨hcf, -, -, hse, hA, hB, -⟩ := frame
  have orders : ∀ x, (u.outlet x).sp.ordered = 0 := fun x => by
    cases x
    · rw [State.outlet_a, hA]; dsimp only; omega
    · rw [State.outlet_b, hB]; dsimp only; omega
  unfold State.joinAtConfigure
  split
  · refine ⟨shareLaw_of_silent ?_ ?_ ?_ ?_ ?_ ?_ ?_, ?_⟩
    · rw [(State.raise_frame _ _).2.2.2.1, hse]; exact hceiling
    · rw [(State.raise_frame _ _).2.2.2.1, hse]; exact hclaim
    · intro x; rw [State.raise_outlet, State.outlet_with_se]; exact orders x
    · rw [(State.raise_frame _ _).1, hcf]; exact hvalid
    · rw [(State.raise_frame _ _).2.2.2.1]; exact fun h => by cases h
    · rw [(State.raise_frame _ _).1, hcf]; exact fun h => by cases h
    · intro _; exact Nat.zero_le _
    · rw [(State.raise_frame _ _).2.2.2.1, hse]
  · next hstate =>
    have hbarred : u.se.state = .barred := by
      rw [hse] at hstate ⊢
      exact (hnone hconfig).resolve_left hstate
    refine ⟨shareLaw_of_silent ?_ ?_ orders ?_ ?_ ?_ ?_, ?_⟩
    · rw [hse]; exact hceiling
    · rw [hse]; exact hclaim
    · rw [hcf]; exact hvalid
    · exact fun h => absurd h hstate
    · rw [hcf]; exact fun h => by cases h
    · rw [hbarred]; exact fun h => by cases h
    · rw [hse]

theorem configure_sound (data : List Byte) : Sound s (configureCommand data s).state := by
  unfold configureCommand
  dsimp only
  split
  · exact .refl s
  · next hconfigured =>
    split
    · next hvalid =>
      obtain ⟨-, -, hFP, -⟩ := hvalid
      exact acceptConfiguration_sound s _ hFP (Option.not_isSome_iff_eq_none.1 hconfigured)
    · exact .refl s

theorem stepClock_sound : Sound s (s.stepClock x) := work_sound (stepClock_work s x) (modFlags_calm s x _)

theorem setClock_sound (data : List Byte) : Sound s (setClockCommand data s).state := by
  unfold setClockCommand
  split
  · exact .refl s
  · have set : Sound s { s with cf := { s.cf with day := field data 0 2, second := field data 2 3, clockSet := true } } := sound_of_block
    exact (set.trans (stepClock_sound _ .a)).trans (stepClock_sound _ .b)

theorem hearAllInRestart_sound : Sound s s.hearAllInRestart := by
  rw [s.hearAllInRestart_spec.1]; exact sound_of_block

theorem restart_sound (data : List Byte) : Sound s (restartCommand data s).state := by
  unfold restartCommand
  split
  · exact .refl s
  · exact (serviceRestart_sound s).trans (hearAllInRestart_sound _)

theorem loadTariff_sound (data : List Byte) : Sound s (loadTariffCommand data s).state := by
  unfold loadTariffCommand
  split
  · exact .refl s
  · split
    · exact .refl s
    · exact sound_of_block

theorem placeSession_calm (h : (s.outlet x).sc.state ≠ .energising) : Calm x s (s.placeSession x) := by
  unfold State.placeSession
  split
  · exact (enter_calm s x _ h).trans (modSc_calm _ x _ (by intro; rfl))
  · split
    · exact (enter_calm s x _ h).trans (modFlags_calm _ x _)
    · exact connect_calm s x h

theorem opened_sound {s t : State} (h : Opened s t) : Sound s t := by
  obtain ⟨x, data, bank, tariff, -, hvacant, -, -, -, rfl⟩ := h
  generalize s.newRecord x data bank tariff = r
  have booked : CalmStep s (s.bookSession x r) := by
    refine ⟨.of_eq (bookSession_frame s x r).2.1, by rw [(bookSession_frame s x r).1], by rw [(bookSession_frame s x r).1],
      by simp [State.bookSession], fun y => ?_⟩
    cases x <;> cases y <;> exact .inr ⟨rfl, id⟩
  refine (sound_of_calm booked).trans (work_sound (placeSession_work _ x) (placeSession_calm _ x ?_))
  have state : ((s.bookSession x r).outlet x).sc.state = (s.outlet x).sc.state := by cases x <;> rfl
  rw [state, hvacant]; decide

theorem openSession_sound (data : List Byte) : Sound s (openSessionCommand data s).state := by
  obtain same | opened := openSession_cases s data
  · rw [same]; exact .refl s
  · exact opened_sound opened

theorem demand_sound (data : List Byte) : Sound s (demandCommand data s).state := by
  unfold demandCommand
  split
  · exact .refl s
  · next x _ =>
    split
    · exact .refl s
    · split
      · exact .refl s
      · split
        · exact work_sound (modSc_work s x (fun c => { c with requested := min (field data 1 2) (s.rating x) }) (by intro; rfl))
            (modSc_calm s x _ (by intro; rfl))
        · exact .refl s

theorem stopSessionAt_calm (reason : Nat) : Calm x s (s.stopSessionAt x reason).state := by
  unfold State.stopSessionAt
  split
  · next h => exact endAndSettle_calm s x _ (by rw [h]; decide)
  · exact ordinaryStop_calm s x _
  · exact ordinaryStop_calm s x _
  · exact ordinaryStop_calm s x _
  all_goals exact .refl x s

theorem stopSession_sound (data : List Byte) : Sound s (stopSessionCommand data s).state := by
  unfold stopSessionCommand
  split
  · exact .refl s
  · split
    · exact .refl s
    · split
      · exact .refl s
      · exact work_sound (stopSessionAt_work s _ _) (stopSessionAt_calm s _ _)

theorem setCurtail_sound (data : List Byte) : Sound s (setCurtailCommand data s).state := by
  unfold setCurtailCommand
  dsimp only
  split
  · exact .refl s
  · split
    · exact .refl s
    · split
      · exact .refl s
      · have origin : Sound s { s with se := { s.se with origin := field data 0 1 } } := sound_of_block
        unfold State.setOrigin State.placeCurtail
        exact (origin.trans (setView_sound _ (s.pv.setOwn (field data 0 1)) rfl)).trans (placeFrame_sound _ _ _)

theorem siteHalt_sound (data : List Byte) : Sound s (siteHaltCommand data s).state := by
  unfold siteHaltCommand
  dsimp only
  split
  · exact .refl s
  · split
    · exact .refl s
    · exact originateHalt_sound s _ _

theorem releaseSettlement_sound (data : List Byte) : Sound s (releaseSettlementCommand data s).state := by
  unfold releaseSettlementCommand
  split
  · exact .refl s
  · split
    · exact .refl s
    · split
      · exact sound_of_block
      · exact .refl s

theorem run_sound (cmd : LinkCommand) (data : List Byte) : Sound s (cmd.run data s).state := by
  have read := reading_state s cmd data
  cases cmd
  case configure => exact configure_sound s data
  case setClock => exact setClock_sound s data
  case restart => exact restart_sound s data
  case loadTariff => exact loadTariff_sound s data
  case openSession => exact openSession_sound s data
  case demand => exact demand_sound s data
  case stopSession => exact stopSession_sound s data
  case setCurtail => exact setCurtail_sound s data
  case siteHalt => exact siteHalt_sound s data
  case releaseSettlement => exact releaseSettlement_sound s data
  case clearCauses => dsimp only [LinkCommand.run]; unfold clearCausesCommand; split <;> exact sound_of_block
  case setMask => dsimp only [LinkCommand.run]; unfold setMaskCommand; split <;> exact sound_of_block
  all_goals rw [read (by simp)]; exact .refl s

end

/-! ## Every command but a round -/

theorem hardReset_shareLaw {s t : State} {pins : StrapPins} {levels : InputLevels} (h : exec (.hardReset pins levels) s = .next t) :
    t.ShareLaw ∧ t.se.ceiling = 0 := by
  injection h with h
  subst h
  refine ⟨shareLaw_of_silent rfl rfl (fun x => ?_) (Nat.le_refl 0) (fun _ => rfl) (fun _ => .inl rfl) (fun h => by cases h), rfl⟩
  cases x
  · rfl
  · rw [State.outlet_b]; dsimp only; split <;> rfl

/-- A command other than a round keeps the law and does not raise the ceiling. -/
theorem exec_sound {s t : State} : ∀ c : Instr, exec c s = .next t → c ≠ .round → Sound s t := by
  refine casesByBlock ?_ ?_ ?_ ?_ ?_ ?_ ?_ ?_ ?_ ?_ ?_ ?_ ?_
  · intro pins levels h _ _
    obtain ⟨law, zero⟩ := hardReset_shareLaw h
    exact ⟨law, zero ▸ Nat.zero_le _⟩
  · intro h _
    simp only [exec, execClockTick] at h
    split at h <;> cases h <;> exact sound_of_block
  · exact fun _ h => absurd rfl h
  · intro cell h _
    simp only [exec, execNumberClash] at h
    split at h
    · cases h; exact .refl s
    · split at h
      · cases h; exact clash_sound s
      · split at h
        · split at h <;> cases h
          · exact Sound.trans sound_of_block (clash_sound _)
          · exact .refl s
        all_goals cases h; exact .refl s
  · intro bytes h _
    simp only [exec, execFrameEvaluation] at h
    split at h <;> cases h
    · exact takeFrame_sound s bytes
    · exact .refl s
  · intro h _
    simp only [exec, execHoldTimerExpiry] at h
    split at h
    · split at h <;> cases h
      · exact sound_of_block (halted := fun _ => by simp [PeerView.isHalted]; omega)
      · exact Sound.trans (sound_of_block (halted := fun h => by simp [PeerView.isHalted] at h)) (haltEnds_sound _)
    · cases h; exact .refl s
  · intro h _
    have asserted : Sound s { s with se := { s.se with tripInput := true } } := sound_of_block
    simp only [exec, execSiteTripAsserted] at h
    split at h
    · cases h; exact .refl s
    · split at h <;> cases h
      · exact asserted.trans (tripBegins_sound _ _)
      · exact asserted
  · intro h _
    simp only [exec, execSiteTripReleased] at h
    split at h <;> cases h
    · exact sound_of_block
    · exact .refl s
  · intro h _
    have asserted : Sound s { s with estop := true } := sound_of_block
    simp only [exec, execEmergencyStopAsserted] at h
    split at h <;> cases h
    · exact .refl s
    · exact asserted.trans (stopBoth_sound _)
  · intro h _
    have released : Sound s { s with estop := false } := sound_of_block
    simp only [exec, execEmergencyStopReleased] at h
    split at h <;> cases h
    · exact (released.trans (work_sound (releaseOutlet_work _ .a) (releaseOutlet_calm _ .a))).trans
        (work_sound (releaseOutlet_work _ .b) (releaseOutlet_calm _ .b))
    · exact .refl s
  · intro c hc h _
    rw [exec_lineRow hc h]
    exact sound_of_block
  · exact fun c x hc h _ => work_sound (exec_outletEvent hc h) (exec_outletEvent_calm hc h)
  · intro c hc h _
    cases exec_linkStep hc h with
    | stays p => exact sound_of_block
    | takes cmd data p =>
      have handed : Sound s { s with pk := p } := sound_of_block
      exact (handed.trans (run_sound _ cmd data)).trans (sound_of_block (t := answeredBy cmd _))

end Sys2Proof.Proofs.ShareLaw
end

section
/-! The figures of a round meet the law (R54 to R58), the split keeps within C (R59), and a ceiling rises by a claim or under F (R53). -/

namespace Sys2Proof.Proofs.RoundLaw

open Machine OutletOperations StationWork StandingOrders RoundSteps ShareLaw

/-! ## What the law says of C, K and the share state, and of the orders -/

/-- The law of ceiling, claim and cap in each share state. -/
structure FigureLaw (s : State) : Prop where
  ceiling : s.se.ceiling ≤ s.se.claim
  claim : s.se.claim ≤ ratedOf s.cf.config
  fallback : fallbackOf s.cf.config ≤ ratedOf s.cf.config
  unconfigured : s.se.state = .unconfigured → s.cf.config = none
  none : s.cf.config = none → s.se.state = .unconfigured ∨ s.se.state = .barred
  zero : s.se.state = .unconfigured ∨ s.se.state = .barred ∨ s.pv.isHalted = true → s.se.claim = 0
  joining : s.se.state = .joining → s.se.claim = s.se.ceiling ∧ s.se.ceiling ≤ s.se.cap ∧ s.se.cap ≤ fallbackOf s.cf.config
  isolated : s.se.state = .isolated → s.se.claim = s.se.ceiling ∧ s.se.ceiling ≤ fallbackOf s.cf.config

/-- The law of the orders under a ceiling. -/
structure OrderLaw (s : State) : Prop where
  sum : s.outA.sp.ordered + s.outB.sp.ordered ≤ s.se.ceiling
  energising : ∀ x, (s.outlet x).sp.ordered ≠ 0 → s.fitted x = true ∧ (s.outlet x).sc.state = .energising

theorem shareLaw_iff (s : State) : s.ShareLaw ↔ FigureLaw s ∧ OrderLaw s := by
  constructor
  · rintro ⟨h1, h2, h3, h4, h5, h6, h7, h8, hsum, hA, hB⟩
    refine ⟨⟨h1, h2, h3, h4, h5, h6, h7, h8⟩, hsum, fun x => ?_⟩
    cases x
    · exact fun h => ⟨rfl, hA h⟩
    · exact fun h => ⟨(hB h).2, (hB h).1⟩
  · rintro ⟨⟨h1, h2, h3, h4, h5, h6, h7, h8⟩, hsum, horders⟩
    exact ⟨h1, h2, h3, h4, h5, h6, h7, h8, hsum, fun h => (horders .a h).2, fun h => ⟨(horders .b h).2, (horders .b h).1⟩⟩

theorem FigureLaw.zero_of_inactive {s : State} (law : FigureLaw s) (h : s.se.state.active = false) : s.se.claim = 0 ∧ s.se.ceiling = 0 := by
  have zero : s.se.claim = 0 := by
    refine law.zero ?_
    cases hs : s.se.state <;> rw [hs] at h
    · exact .inl rfl
    · cases h
    · cases h
    · cases h
    · exact .inr (.inl rfl)
  exact ⟨zero, Nat.le_zero.1 (zero ▸ law.ceiling)⟩

/-! ## The transition (R68, R69, R71 to R73) -/

section
variable (s : State)

theorem fixOutcome_fixed (e : ShareEngine) : e.fixOutcome.state = e.state ∧ e.fixOutcome.timer = e.timer ∧ e.fixOutcome.cap = e.cap ∧
    e.fixOutcome.ceiling = e.ceiling ∧ e.fixOutcome.claim = e.claim ∧
    (e.fixOutcome.prevAcked = true → e.frameBuilt = true ∧ e.ackReported = true ∧ e.fixOutcome.prevClaim = e.frameClaim) := by
  unfold ShareEngine.fixOutcome
  split
  · simp
  · next hbuilt =>
    split
    · next hack => simp [hack, Bool.eq_true_of_not_eq_false hbuilt]
    · simp

theorem transition_fixed (e : ShareEngine) (f : Nat) : (e.transition f).ceiling = e.ceiling ∧ (e.transition f).claim = e.claim ∧
    (e.transition f).prevAcked = e.prevAcked ∧ (e.transition f).prevClaim = e.prevClaim := by
  unfold ShareEngine.transition ShareEngine.enterAtRound
  cases e.state with
  | unconfigured => simp
  | barred => simp
  | joining =>
    dsimp only
    split
    · simp
    · split <;> simp
  | sharing => dsimp only; split <;> simp
  | isolated => dsimp only; split <;> simp

theorem movedEngine_figures : (movedEngine s).ceiling = s.se.ceiling ∧ (movedEngine s).claim = s.se.claim ∧
    ((movedEngine s).prevAcked = true →
      s.se.frameBuilt = true ∧ s.se.ackReported = true ∧ (movedEngine s).prevClaim = s.se.frameClaim) := by
  obtain ⟨-, -, -, hceiling, hclaim, hacked⟩ := fixOutcome_fixed s.se
  obtain ⟨tceiling, tclaim, tacked, tprev⟩ := transition_fixed s.se.fixOutcome.tick (fallbackOf s.cf.config)
  unfold movedEngine
  rw [tceiling, tclaim, tacked, tprev]
  exact ⟨hceiling, hclaim, hacked⟩

/-- Where a transition can lead: UNCONFIGURED and BARRED stay alone, JOINING is entered with cap F, and ISOLATED is entered with timer 1. -/
theorem transition_state (e : ShareEngine) (f : Nat) :
    ((e.transition f).state = .unconfigured ↔ e.state = .unconfigured) ∧ ((e.transition f).state = .barred ↔ e.state = .barred) ∧
    ((e.transition f).state = .joining → (e.transition f).cap = f ∨ (e.state = .joining ∧ (e.transition f).cap = e.cap)) ∧
    ((e.transition f).state = .isolated → (e.transition f).timer = 1 ∨ e.state = .isolated) := by
  unfold ShareEngine.transition ShareEngine.enterAtRound
  cases h : e.state with
  | unconfigured => simp [h]
  | barred => simp [h]
  | joining =>
    dsimp only
    split
    · simp
    · split
      · simp
      · simp [h]
  | sharing =>
    dsimp only
    split
    · simp
    · simp [h]
  | isolated =>
    dsimp only
    split
    · simp
    · simp [h]

/-- What the transition hands to the arithmetic. -/
structure Moved (s v : State) : Prop where
  config : v.cf.config = s.cf.config
  halted : v.pv.isHalted = s.pv.isHalted
  ceiling : v.se.ceiling = s.se.ceiling
  claim : v.se.claim = s.se.claim
  acked : v.se.prevAcked = true → s.se.frameBuilt = true ∧ s.se.ackReported = true ∧ v.se.prevClaim = s.se.frameClaim
  unconfigured : v.se.state = .unconfigured ↔ s.se.state = .unconfigured
  barred : v.se.state = .barred ↔ s.se.state = .barred
  joining : v.se.state = .joining → v.se.cap = fallbackOf s.cf.config ∨ (s.se.state = .joining ∧ v.se.cap = s.se.cap)
  isolated : v.se.state = .isolated → v.se.timer = 1 ∨ s.se.state = .isolated

theorem moved_roundState : Moved s s.roundAgeing.roundState := by
  have same : movedEngine s.roundAgeing = movedEngine s := by simp [movedEngine]
  have se : s.roundAgeing.roundState.se = movedEngine s := by rw [(roundState_frame _).2.2.2.1, same]
  obtain ⟨hceiling, hclaim, hacked⟩ := movedEngine_figures s
  obtain ⟨hstate, -, hcap, -⟩ := fixOutcome_fixed s.se
  obtain ⟨hunc, hbar, hjoin, hiso⟩ := transition_state s.se.fixOutcome.tick (fallbackOf s.cf.config)
  have tickState : s.se.fixOutcome.tick.state = s.se.state := hstate
  have tickCap : s.se.fixOutcome.tick.cap = s.se.cap := hcap
  rw [tickState] at hunc hbar hjoin hiso
  rw [tickCap] at hjoin
  refine ⟨by simp, by simp [PeerView.isHalted], ?_, ?_, ?_, ?_, ?_, ?_, ?_⟩
  all_goals rw [se]
  · exact hceiling
  · exact hclaim
  · exact hacked
  · exact hunc
  · exact hbar
  · exact hjoin
  · exact hiso

/-! ## The arithmetic in each share state (R44 to R58, R64) -/

theorem roundArithmetic_unconfigured (h : s.cf.config = none) :
    s.roundArithmetic.se = { s.se with figures := RoundFigures.blank } := by
  unfold State.roundArithmetic; rw [h]

theorem roundArithmetic_inactive (h : s.se.state.active = false) :
    s.roundArithmetic.se = { s.se with figures := RoundFigures.blank } := by
  unfold State.roundArithmetic
  split
  · rfl
  · cases hs : s.se.state <;> rw [hs] at h <;> first | rfl | cases h

variable {s} {k : Configuration} (hk : s.cf.config = some k)
include hk

theorem roundArithmetic_joining (h : s.se.state = .joining) : s.roundArithmetic.se = { s.se with
    ceiling := if s.pv.isHalted then 0 else min s.se.ceiling s.se.cap
    claim := if s.pv.isHalted then 0 else min s.se.ceiling s.se.cap
    figures := { RoundFigures.blank with budget := some (s.roundBudget k) } } := by
  unfold State.roundArithmetic; rw [hk, h]

theorem roundArithmetic_isolated (h : s.se.state = .isolated) : s.roundArithmetic.se = { s.se with
    ceiling := if s.pv.isHalted then 0 else isolatedCeiling k s.se.timer s.se.ceiling (s.ownDemand k)
    claim := if s.pv.isHalted then 0 else isolatedCeiling k s.se.timer s.se.ceiling (s.ownDemand k)
    figures := { RoundFigures.blank with budget := some (s.roundBudget k) } } := by
  unfold State.roundArithmetic; rw [hk, h]

theorem roundArithmetic_sharing_halted (h : s.se.state = .sharing) (halted : s.pv.isHalted = true) :
    s.roundArithmetic.se = { s.se with
      ceiling := 0, claim := 0, figures := { RoundFigures.blank with budget := some (s.roundBudget k) } } := by
  unfold State.roundArithmetic
  rw [hk, h]
  dsimp only
  rw [if_pos halted]

/-- The ceiling as the lowering leaves it in SHARING (R52). -/
def loweredCeiling (s : State) (k : Configuration) : Nat := lowered s.se.ceiling (s.roundShare k) (s.ownDemand k)

/-- H of a round in SHARING (R51). -/
def roundRoom (s : State) (k : Configuration) : Nat := headroom (s.roundBudget k) s.pv.peers (loweredCeiling s k)

/-- C of a round in SHARING (R52, R53). -/
def sharedCeiling (s : State) (k : Configuration) : Nat :=
  raised s.se.prevAcked s.se.prevClaim (s.roundShare k) (s.ownDemand k) (loweredCeiling s k) (roundRoom s k)

theorem roundArithmetic_sharing (h : s.se.state = .sharing) (halted : s.pv.isHalted ≠ true) : s.roundArithmetic.se = { s.se with
    ceiling := sharedCeiling s k
    claim := newClaim (s.roundShare k) (s.ownDemand k) (sharedCeiling s k) k.ramp
    figures := { budget := some (s.roundBudget k), share := some (s.roundShare k), headroom := some (roundRoom s k) } } := by
  unfold State.roundArithmetic
  rw [hk, h]
  dsimp only
  rw [if_neg halted]
  rfl

end

/-! ## The figures meet the law -/

theorem lowered_le (c share q : Nat) : lowered c share q ≤ c ∧ lowered c share q ≤ share ∧ lowered c share q ≤ q := by
  unfold lowered; omega

theorem raised_le (acked : Bool) (prev share q c room : Nat) (hc : c ≤ min share q) : raised acked prev share q c room ≤ min share q := by
  unfold raised; split <;> omega

/-- R53: a ceiling above the lowered one comes from an acknowledged claim and from headroom. -/
theorem raised_above {acked : Bool} {prev share q c room : Nat} (h : c < raised acked prev share q c room) :
    acked = true ∧ raised acked prev share q c room ≤ prev ∧ raised acked prev share q c room ≤ c + room := by
  unfold raised at *
  split at h
  · next ha => rw [if_pos ha]; exact ⟨ha, by omega, by omega⟩
  · omega

theorem sharedCeiling_le (s : State) (k : Configuration) : sharedCeiling s k ≤ min (s.roundShare k) (s.ownDemand k) := by
  obtain ⟨-, hshare, hq⟩ := lowered_le s.se.ceiling (s.roundShare k) (s.ownDemand k)
  exact raised_le _ _ _ _ _ _ (Nat.le_min.2 ⟨hshare, hq⟩)

theorem newClaim_bounds {share q c ramp : Nat} (h : c ≤ min share q) : c ≤ newClaim share q c ramp ∧ newClaim share q c ramp ≤ q := by
  unfold newClaim; omega

theorem ownDemand_le (s : State) (k : Configuration) : s.ownDemand k ≤ k.rated := Nat.min_le_right _ _

/-- R57: in ISOLATED the ceiling is at most F once it was, or at the first round. -/
theorem isolatedCeiling_le {k : Configuration} {timer c q : Nat} (h : timer ≤ 1 ∨ c ≤ k.fallback) :
    isolatedCeiling k timer c q ≤ k.fallback := by
  unfold isolatedCeiling; split
  · omega
  · split <;> omega

/-- R57: in ISOLATED the ceiling rises from the ninth round on, and under F. -/
theorem isolatedCeiling_above {k : Configuration} {timer c q : Nat} (h : c < isolatedCeiling k timer c q) :
    9 ≤ timer ∧ isolatedCeiling k timer c q ≤ k.fallback := by
  unfold isolatedCeiling Config.joinRounds at *
  split at h
  · omega
  · next h1 =>
    split at h
    · omega
    · next h9 => rw [if_neg h1, if_neg h9]; omega

theorem state_of_active {st : ShareState} (h : st.active ≠ false) : st = .joining ∨ st = .sharing ∨ st = .isolated := by
  cases st <;> simp_all [ShareState.active]

theorem active_of_config {s : State} (law : FigureLaw s) (h : s.se.state.active ≠ false) : ∃ k, s.cf.config = some k := by
  cases hk : s.cf.config with
  | some k => exact ⟨k, rfl⟩
  | none => obtain hs | hs := law.none hk <;> rw [hs] at h <;> exact absurd rfl h

theorem Moved.active {s v : State} (moved : Moved s v) : v.se.state.active = s.se.state.active := by
  have hunc := moved.unconfigured
  have hbar := moved.barred
  cases hv : v.se.state <;> cases hs : s.se.state <;> simp [hv, hs, ShareState.active] at hunc hbar ⊢

/-- The figures of a state that takes part: C at most K, K at most P, 0 while halted, under the cap or F. -/
theorem figureLaw_of_active {t : State} {k : Configuration} (hk : t.cf.config = some k) (hF : k.fallback ≤ k.rated)
    (hactive : t.se.state.active ≠ false) (hCK : t.se.ceiling ≤ t.se.claim) (hKP : t.se.claim ≤ k.rated)
    (hhalted : t.pv.isHalted = true → t.se.claim = 0)
    (hjoin : t.se.state = .joining → t.se.claim = t.se.ceiling ∧ t.se.ceiling ≤ t.se.cap ∧ t.se.cap ≤ k.fallback)
    (hiso : t.se.state = .isolated → t.se.claim = t.se.ceiling ∧ t.se.ceiling ≤ k.fallback) : FigureLaw t where
  ceiling := hCK
  claim := by rw [hk]; exact hKP
  fallback := by rw [hk]; exact hF
  unconfigured h := absurd (congrArg ShareState.active h) hactive
  none h := by rw [hk] at h; cases h
  zero h := by
    obtain h | h | h := h
    · exact absurd (congrArg ShareState.active h) hactive
    · exact absurd (congrArg ShareState.active h) hactive
    · exact hhalted h
  joining := by rw [hk]; exact hjoin
  isolated := by rw [hk]; exact hiso

/-- Whatever the share state that the transition has led to, the figures that the arithmetic leaves meet the law. -/
theorem roundArithmetic_law {s v : State} (moved : Moved s v) (law : FigureLaw s) : FigureLaw v.roundArithmetic := by
  have hcf : v.roundArithmetic.cf = v.cf := (roundArithmetic_frame v).1
  have hpv : v.roundArithmetic.pv = v.pv := (roundArithmetic_frame v).2.2.1
  by_cases hv : v.se.state.active = false
  · obtain ⟨hclaim, hceiling⟩ := law.zero_of_inactive (moved.active ▸ hv)
    have se := roundArithmetic_inactive v hv
    constructor <;> simp only [se, hcf, moved.config, moved.ceiling, moved.claim, moved.unconfigured, moved.barred, hclaim, hceiling]
    · exact Nat.le_refl _
    · exact Nat.zero_le _
    · exact law.fallback
    · exact law.unconfigured
    · exact law.none
    · exact fun _ => trivial
    · exact fun h => by rw [h] at hv; cases hv
    · exact fun h => by rw [h] at hv; cases hv
  · obtain ⟨k, hk⟩ := active_of_config law (moved.active ▸ hv)
    have hvk : v.cf.config = some k := moved.config.trans hk
    have hF : k.fallback ≤ k.rated := by have := law.fallback; rwa [hk] at this
    have hKP : s.se.claim ≤ k.rated := by have := law.claim; rwa [hk] at this
    have hCP : v.se.ceiling ≤ k.rated := moved.ceiling.trans_le (law.ceiling.trans hKP)
    have hfall : fallbackOf s.cf.config = k.fallback := congrArg fallbackOf hk
    obtain hs | hs | hs := state_of_active hv
    · have se := roundArithmetic_joining hvk hs
      have hcap : v.se.cap ≤ k.fallback := by
        obtain new | ⟨old, kept⟩ := moved.joining hs
        · rw [new, hfall]
        · rw [kept, ← hfall]; exact (law.joining old).2.2
      refine figureLaw_of_active (hcf ▸ hvk) hF ?_ ?_ ?_ ?_ ?_ ?_ <;> rw [se] <;> dsimp only
      · exact hv
      · split <;> omega
      · rw [hpv]; exact fun h => if_pos h
      · refine fun _ => ⟨rfl, ?_, hcap⟩
        split <;> omega
      · exact fun h => by rw [hs] at h; cases h
    · by_cases halted : v.pv.isHalted = true
      · have se := roundArithmetic_sharing_halted hvk hs halted
        refine figureLaw_of_active (hcf ▸ hvk) hF ?_ ?_ ?_ ?_ ?_ ?_ <;> rw [se] <;> dsimp only
        · exact hv
        · exact Nat.zero_le _
        · exact fun _ => rfl
        · exact fun h => by rw [hs] at h; cases h
        · exact fun h => by rw [hs] at h; cases h
      · have se := roundArithmetic_sharing hvk hs halted
        obtain ⟨hCK, hq⟩ := newClaim_bounds (ramp := k.ramp) (sharedCeiling_le v k)
        refine figureLaw_of_active (hcf ▸ hvk) hF ?_ ?_ ?_ ?_ ?_ ?_ <;> rw [se] <;> dsimp only
        · exact hv
        · exact hCK
        · exact hq.trans (ownDemand_le v k)
        · rw [hpv]; exact fun h => absurd h halted
        · exact fun h => by rw [hs] at h; cases h
        · exact fun h => by rw [hs] at h; cases h
    · have se := roundArithmetic_isolated hvk hs
      have hc : (if v.pv.isHalted then 0 else isolatedCeiling k v.se.timer v.se.ceiling (v.ownDemand k)) ≤ k.fallback := by
        split
        · exact Nat.zero_le _
        · refine isolatedCeiling_le ?_
          obtain first | old := moved.isolated hs
          · exact .inl (by omega)
          · exact .inr (by rw [moved.ceiling, ← hfall]; exact (law.isolated old).2)
      refine figureLaw_of_active (hcf ▸ hvk) hF ?_ ?_ ?_ ?_ ?_ ?_ <;> rw [se] <;> dsimp only
      · exact hv
      · exact hc.trans hF
      · rw [hpv]; exact fun h => if_pos h
      · exact fun h => by rw [hs] at h; cases h
      · exact fun _ => ⟨rfl, hc⟩

/-- R53 of the arithmetic: a ceiling above the one before. -/
theorem roundArithmetic_raises {s v : State} (moved : Moved s v) (law : FigureLaw s)
    (h : s.se.ceiling < v.roundArithmetic.se.ceiling) :
    (v.se.state = .sharing ∧ v.pv.isHalted = false ∧ s.se.frameBuilt = true ∧ s.se.ackReported = true ∧
      v.roundArithmetic.se.ceiling ≤ s.se.frameClaim ∧
      ∃ E, v.roundArithmetic.se.figures.budget = some E ∧ v.roundArithmetic.se.ceiling + allReservations v.pv.peers ≤ E) ∨
    (v.se.state = .isolated ∧ 9 ≤ v.se.timer ∧ v.roundArithmetic.se.ceiling ≤ fallbackOf s.cf.config) := by
  rw [← moved.ceiling] at h
  by_cases hv : v.se.state.active = false
  · rw [roundArithmetic_inactive v hv] at h; exact absurd h (Nat.lt_irrefl _)
  · obtain ⟨k, hk⟩ := active_of_config law (moved.active ▸ hv)
    have hvk : v.cf.config = some k := moved.config.trans hk
    obtain hs | hs | hs := state_of_active hv
    · rw [roundArithmetic_joining hvk hs] at h
      dsimp only at h
      split at h <;> omega
    · by_cases halted : v.pv.isHalted = true
      · rw [roundArithmetic_sharing_halted hvk hs halted] at h; exact absurd h (Nat.not_lt_zero _)
      · rw [roundArithmetic_sharing hvk hs halted] at h ⊢
        have low : loweredCeiling v k ≤ v.se.ceiling := (lowered_le _ _ _).1
        have above : loweredCeiling v k < sharedCeiling v k := Nat.lt_of_le_of_lt low h
        obtain ⟨hacked, hprev, hroom⟩ := raised_above above
        obtain ⟨hbuilt, hack, hclaim⟩ := moved.acked hacked
        refine .inl ⟨hs, Bool.eq_false_iff.2 halted, hbuilt, hack, hclaim ▸ hprev, _, rfl, ?_⟩
        have room : sharedCeiling v k ≤ loweredCeiling v k +
            (v.roundBudget k - allReservations v.pv.peers - loweredCeiling v k) := hroom
        dsimp only
        omega
    · rw [roundArithmetic_isolated hvk hs] at h ⊢
      dsimp only at h ⊢
      split at h
      · exact absurd h (Nat.not_lt_zero _)
      · next halted =>
        obtain ⟨nine, le⟩ := isolatedCeiling_above h
        rw [if_neg halted, hk]
        exact .inr ⟨hs, nine, le⟩

/-! ## The split and the frames (R59, R60) -/

theorem splitCeiling_bounds (c qA qB : Nat) : (splitCeiling c qA qB).1 + (splitCeiling c qA qB).2 ≤ c ∧
    (splitCeiling c qA qB).1 ≤ qA ∧ (splitCeiling c qA qB).2 ≤ qB := by
  unfold splitCeiling
  split
  · exact ⟨by assumption, Nat.le_refl _, Nat.le_refl _⟩
  · split <;> dsimp only <;> omega

theorem outletDemand_pos {s : State} {x : Outlet} (h : s.outletDemand x ≠ 0) :
    s.fitted x = true ∧ (s.outlet x).sc.state = .energising := by
  unfold State.outletDemand at h
  split at h
  · assumption
  · exact absurd rfl h

/-- R59 and R60: after the split the orders are the two outlets' parts of C. -/
theorem roundSplit_ordered {s : State} (h : s.se.state.active = true) :
    (s.roundSplit.outlet .a).sp.ordered = (splitCeiling s.se.ceiling (s.outletDemand .a) (s.outletDemand .b)).1 ∧
    (s.roundSplit.outlet .b).sp.ordered = (splitCeiling s.se.ceiling (s.outletDemand .a) (s.outletDemand .b)).2 := by
  unfold State.roundSplit
  rw [if_pos h]
  dsimp only
  constructor
  · rw [giveCeiling_other _ .b _ .a (by decide), giveCeiling_sp, State.order_ordered]
  · rw [giveCeiling_sp, State.order_ordered]

theorem roundSplit_orderLaw {s : State} (before : s.se.state.active = false → OrderLaw s) : OrderLaw s.roundSplit := by
  have hcf : s.roundSplit.cf = s.cf := (roundSplit_frame s).1
  have hse : s.roundSplit.se = s.se := (roundSplit_frame s).2.2.2.1
  by_cases h : s.se.state.active = true
  · obtain ⟨hA, hB⟩ := roundSplit_ordered h
    obtain ⟨hsum, hqA, hqB⟩ := splitCeiling_bounds s.se.ceiling (s.outletDemand .a) (s.outletDemand .b)
    refine ⟨?_, fun x hx => ?_⟩
    · rw [hse, ← State.outlet_a, ← State.outlet_b, hA, hB]; exact hsum
    · rw [roundSplit_state, fitted_of_cf hcf]
      cases x
      · exact outletDemand_pos fun zero => hx (by omega)
      · exact outletDemand_pos fun zero => hx (by omega)
  · have same : s.roundSplit = s := by unfold State.roundSplit; rw [if_neg h]
    rw [same]
    exact before (Bool.eq_false_iff.2 h)

/-- The state before the frames of step 7 meets the law. -/
theorem announced_law {s : State} (law : s.ShareLaw) : (announced s).ShareLaw := by
  obtain ⟨figures, orders⟩ := (shareLaw_iff s).1 law
  have moved := moved_roundState s
  have computedLaw : FigureLaw (computed s) := roundArithmetic_law moved figures
  have split : OrderLaw (computed s).roundSplit := by
    refine roundSplit_orderLaw fun inactive => ?_
    obtain ⟨-, zero⟩ := computedLaw.zero_of_inactive inactive
    have hstate : (computed s).se.state = s.roundAgeing.roundState.se.state := by
      unfold computed; rw [roundArithmetic_eq]
    have zeroBefore : s.se.ceiling = 0 := (figures.zero_of_inactive (by rw [← moved.active, ← hstate]; exact inactive)).2
    have frame := computed_frame s
    refine ⟨?_, fun x hx => ?_⟩
    · rw [zero, frame.2.2.2.1, frame.2.2.2.2.1]; exact zeroBefore ▸ orders.sum
    · rw [computed_outlet] at hx ⊢
      rw [fitted_of_cf frame.1]
      exact orders.energising x hx
  have hcf : (announced s).cf = (computed s).cf := (announced_frame s).1.trans (computed_frame s).1.symm
  have hpv : (announced s).pv = (computed s).pv := (announced_frame s).2.1.trans (computed_frame s).2.2.1.symm
  have hse := announced_se s
  rw [shareLaw_iff]
  constructor
  · obtain ⟨h1, h2, h3, h4, h5, h6, h7, h8⟩ := computedLaw
    constructor <;> simp only [hse, hcf, hpv] <;> assumption
  · obtain ⟨hsum, horders⟩ := split
    refine ⟨?_, fun x hx => ?_⟩
    · rw [← State.outlet_a, ← State.outlet_b, announced_sp, announced_sp, hse]
      rw [(roundSplit_frame _).2.2.2.1] at hsum
      exact hsum
    · rw [announced_sp] at hx
      rw [announced_sc, fitted_of_cf (hcf.trans (roundSplit_frame (computed s)).1.symm)]
      exact horders x hx

theorem placeCurtail_sound (s : State) (level : Nat) : Sound s (s.placeCurtail level) := placeFrame_sound s _ _

theorem roundOriginate_sound (s : State) : Sound s s.roundOriginate := by
  have first : Sound s (if s.se.origin < 100 then s.placeCurtail s.se.origin else s) := by
    split
    · exact placeCurtail_sound s _
    · exact .refl s
  unfold State.roundOriginate
  dsimp only
  generalize (if s.se.origin < 100 then s.placeCurtail s.se.origin else s) = t at first
  split
  · exact first
  · split
    · exact first
    · split
      · exact first.trans sound_of_block
      · exact first.trans (tripBegins_sound t _)

theorem round_sound {s t : State} (h : exec .round s = .next t) : s.ShareLaw → t.ShareLaw := by
  rw [exec_round] at h
  injection h with h
  subst h
  exact fun law => (roundOriginate_sound _ (announced_law law)).1

theorem exec_keeps_shareLaw {s t : State} {c : Instr} (h : exec c s = .next t) (law : s.ShareLaw) : t.ShareLaw := by
  by_cases hc : c = .round
  · subst hc; exact round_sound h law
  · exact (exec_sound c h hc law).1

/-- Settles O53: a step is one command on the state without it, and each command keeps the law. -/
theorem stepKeepsShareLaw : Obligations.StepKeepsShareLaw := by
  intro s t law h
  unfold step at h
  split at h
  · cases h; exact law
  · exact exec_keeps_shareLaw h law

/-! ## The law of the raise (R53) -/

/-- A halt leaves C at 0, whether it begins or goes on. -/
theorem takeHalt_ceiling {s : State} (law : s.ShareLaw) (source seconds reason : Nat) :
    (s.takeHalt source seconds reason).se.ceiling = 0 := by
  obtain ⟨figures, -⟩ := (shareLaw_iff s).1 law
  have going : s.pv.hold ≠ 0 → s.se.ceiling = 0 := fun h => by
    have zero := figures.zero (.inr (.inr (by simp [PeerView.isHalted]; omega)))
    exact Nat.le_zero.1 (zero ▸ figures.ceiling)
  unfold State.takeHalt
  dsimp only
  split
  · next h => exact going (by omega)
  · split
    · rw [haltBegins_se]
    · next h => exact going h

theorem tripBegins_ceiling {s : State} (law : s.ShareLaw) (k : Configuration) : (s.tripBegins k).se.ceiling = 0 :=
  takeHalt_ceiling (placeFrame_sound s _ _ law).1 _ _ _

/-- Step 7 leaves a ceiling of 0, or the view and the share engine but for the repeat count. -/
theorem roundOriginate_cases {s : State} (law : s.ShareLaw) : s.roundOriginate.se.ceiling = 0 ∨
    (s.roundOriginate.pv = s.pv ∧ ∃ n, s.roundOriginate.se = { s.se with tripRepeat := n }) := by
  have first : (if s.se.origin < 100 then s.placeCurtail s.se.origin else s).ShareLaw ∧
      (if s.se.origin < 100 then s.placeCurtail s.se.origin else s).pv = s.pv ∧
      (if s.se.origin < 100 then s.placeCurtail s.se.origin else s).se = s.se := by
    split
    · exact ⟨(placeCurtail_sound s _ law).1, (placeFrame_frame s _ _).2.1, (placeFrame_frame s _ _).2.2.1⟩
    · exact ⟨law, rfl, rfl⟩
  unfold State.roundOriginate
  dsimp only
  generalize (if s.se.origin < 100 then s.placeCurtail s.se.origin else s) = t at first
  obtain ⟨lawful, hpv, hse⟩ := first
  split
  · exact .inr ⟨hpv, s.se.tripRepeat, hse⟩
  · split
    · exact .inr ⟨hpv, s.se.tripRepeat, hse⟩
    · split
      · exact .inr ⟨hpv, t.se.tripRepeat + 1, by rw [hse]⟩
      · exact .inl (tripBegins_ceiling lawful _)

/-- Settles O56: every command but a round leaves the ceiling or lowers it; a round raises it by its arithmetic alone. -/
theorem ceilingRisesOnlyByClaim : Obligations.CeilingRisesOnlyByClaim := by
  intro s t c law h above
  have hc : c = .round := by
    by_contra other
    exact absurd above (Nat.not_lt.2 (exec_sound c h other law).2)
  refine ⟨hc, ?_⟩
  subst hc
  rw [exec_round] at h
  injection h with h
  subst h
  obtain zero | ⟨hpv, n, hse⟩ := roundOriginate_cases (announced_law law)
  · rw [zero] at above; exact absurd above (Nat.not_lt_zero _)
  · have moved := moved_roundState s
    have aged : s.roundAgeing.roundState.pv = (computed s).pv := (roundArithmetic_frame _).2.2.1.symm
    have reached : (computed s).se.state = s.roundAgeing.roundState.se.state ∧
        (computed s).se.timer = s.roundAgeing.roundState.se.timer := by
      unfold computed; rw [roundArithmetic_eq]; exact ⟨rfl, rfl⟩
    rw [hse, announced_se] at above ⊢
    rw [hpv, (announced_frame s).2.1, ← (computed_frame s).2.2.1, ← aged]
    have raise := roundArithmetic_raises moved ((shareLaw_iff s).1 law).1 above
    rw [← reached.1, ← reached.2] at raise
    exact raise

end Sys2Proof.Proofs.RoundLaw
end

section
/-! The law of the peer view (R23, R26, R29, R30, R32, R33): the tables stay in ascending station number with lawful entries, the own entry
follows the own origin, and the hold timer runs exactly while a hold remains. -/

namespace Sys2Proof.Proofs.ViewLaw

open Machine OutletOperations OutletEvents PedestalLink StationWork RoundSteps ShareLaw

/-! ## Tables in ascending order of a key -/

section
variable {α : Type} (key : α → Nat)

/-- The ascending order of a table by station number. -/
abbrev Ascending (l : List α) : Prop := l.Pairwise fun a b => key a < key b

/-- Put an entry into its place, over the entry with its key if there is one. -/
def placeByKey (e : α) : List α → List α
  | [] => [e]
  | a :: l => if key e < key a then e :: a :: l else if key e = key a then e :: l else a :: placeByKey e l

theorem insertPeer_eq (e : PeerEntry) (l : List PeerEntry) : insertPeer e l = placeByKey PeerEntry.station e l := by
  induction l with
  | nil => rfl
  | cons a l ih => unfold insertPeer placeByKey; rw [ih]

theorem insertCurtail_eq (e : CurtailEntry) (l : List CurtailEntry) : insertCurtail e l = placeByKey CurtailEntry.station e l := by
  induction l with
  | nil => rfl
  | cons a l ih => unfold insertCurtail placeByKey; rw [ih]

variable {key}

theorem mem_placeByKey {e : α} {l : List α} (h : Ascending key l) (a : α) :
    a ∈ placeByKey key e l ↔ a = e ∨ (a ∈ l ∧ key a ≠ key e) := by
  induction l with
  | nil => simp [placeByKey]
  | cons b l ih =>
    obtain ⟨above, rest⟩ := List.pairwise_cons.1 h
    have later : ∀ x ∈ l, key e ≤ key b → key x ≠ key e := fun x hx hb => by
      have := above x hx
      omega
    unfold placeByKey
    split
    · next lt =>
      have hb : key b ≠ key e := by omega
      simp only [List.mem_cons]
      refine or_congr_right ⟨fun hx => ⟨hx, ?_⟩, fun hx => hx.1⟩
      obtain rfl | hx := hx
      · exact hb
      · exact later a hx lt.le
    · split
      · next eq =>
        simp only [List.mem_cons]
        refine or_congr_right ⟨fun hx => ⟨.inr hx, later a hx eq.le⟩, fun hx => ?_⟩
        obtain ⟨rfl | hx, ne⟩ := hx
        · exact absurd eq.symm ne
        · exact hx
      · next ne =>
        simp only [List.mem_cons, ih rest]
        constructor
        · rintro (rfl | rfl | ⟨hx, hne⟩)
          · exact .inr ⟨.inl rfl, Ne.symm ne⟩
          · exact .inl rfl
          · exact .inr ⟨.inr hx, hne⟩
        · rintro (rfl | ⟨rfl | hx, hne⟩)
          · exact .inr (.inl rfl)
          · exact .inl rfl
          · exact .inr (.inr ⟨hx, hne⟩)

theorem ascending_placeByKey {e : α} {l : List α} (h : Ascending key l) : Ascending key (placeByKey key e l) := by
  induction l with
  | nil => exact List.pairwise_singleton _ _
  | cons b l ih =>
    obtain ⟨above, rest⟩ := List.pairwise_cons.1 h
    unfold placeByKey
    split
    · next lt =>
      refine List.pairwise_cons.2 ⟨fun x hx => ?_, h⟩
      obtain rfl | hx := List.mem_cons.1 hx
      · exact lt
      · exact lt.trans (above x hx)
    · next nlt =>
      split
      · next eq => exact List.pairwise_cons.2 ⟨fun x hx => eq ▸ above x hx, rest⟩
      · next ne =>
        refine List.pairwise_cons.2 ⟨fun x hx => ?_, ih rest⟩
        obtain rfl | ⟨hx, -⟩ := (mem_placeByKey rest x).1 hx
        · omega
        · exact above x hx

/-- Ageing and the removals keep the order of a table. -/
theorem ascending_map_filter {f : α → α} (hf : ∀ a, key (f a) = key a) {l : List α} (h : Ascending key l) (p : α → Bool) :
    Ascending key ((l.map f).filter p) := by
  refine List.Pairwise.filter _ (List.pairwise_map.2 (h.imp fun {a b} hab => ?_))
  rwa [hf, hf]

/-- Distinct station numbers below 32 other than the own are at most 31. -/
theorem length_le_of_ascending {l : List α} {own : Nat} (hown : own < 32) (h : Ascending key l)
    (range : ∀ a ∈ l, key a < 32 ∧ key a ≠ own) : (l.map key).Nodup ∧ l.length ≤ 31 := by
  have nodup : (l.map key).Nodup := List.pairwise_map.2 (h.imp fun hab => Nat.ne_of_lt hab)
  refine ⟨nodup, ?_⟩
  have inside : l.map key ⊆ (List.range 32).erase own := fun n hn => by
    obtain ⟨a, ha, rfl⟩ := List.mem_map.1 hn
    obtain ⟨lt, ne⟩ := range a ha
    exact (List.mem_erase_of_ne ne).2 (List.mem_range.2 lt)
  have le := (nodup.subperm inside).length_le
  rwa [List.length_map, List.length_erase_of_mem (List.mem_range.2 hown), List.length_range] at le

end

/-! ## Work that leaves the law -/

/-- Work outside the peer view, the own origin, the configuration and the straps. -/
theorem viewLaw_of_same {s t : State} (hpv : t.pv = s.pv) (hconfig : t.cf.config = s.cf.config) (hstraps : t.cf.straps = s.cf.straps)
    (horigin : t.se.origin = s.se.origin) (law : s.ViewLaw) : t.ViewLaw := by
  unfold State.ViewLaw State.ownStation
  rwa [hpv, hconfig, hstraps, horigin]

theorem viewLaw_of_work {s t : State} (work : OutletsWork s t) : s.ViewLaw → t.ViewLaw :=
  viewLaw_of_same work.pv (by rw [work.cf]) (by rw [work.cf]) (by rw [work.se])

section
variable {s : State}

theorem viewLaw_setView {v : PeerView} (law : State.ViewLaw { s with pv := v }) : (s.setView v).ViewLaw := by
  obtain ⟨hcf, -, hpv, hse, -⟩ := setView_frame s v
  exact viewLaw_of_same hpv (by rw [hcf]) (by rw [hcf]) (by rw [hse]) law

theorem viewLaw_placeFrame (k : FrameKind) (bytes : List Byte) (law : s.ViewLaw) : (s.placeFrame k bytes).ViewLaw := by
  obtain ⟨hcf, hpv, hse, -⟩ := placeFrame_frame s k bytes
  exact viewLaw_of_same hpv (by rw [hcf]) (by rw [hcf]) (by rw [hse]) law

theorem viewLaw_haltBegins (law : s.ViewLaw) : s.haltBegins.ViewLaw :=
  viewLaw_of_same (haltBegins_pv s) (by rw [haltBegins_cf]) (by rw [haltBegins_cf]) (by rw [haltBegins_se]) law

/-- R32 and R33: a halt of 1 to 255 seconds. -/
theorem viewLaw_takeHalt {source seconds reason : Nat} (range : 1 ≤ seconds ∧ seconds ≤ 255) (law : s.ViewLaw) :
    (s.takeHalt source seconds reason).ViewLaw := by
  obtain ⟨h1, h2, h3, h4, h5, h6, h7, h8, h9⟩ := law
  have held : State.ViewLaw
      { s with pv := { s.pv with haltRecord := some { source := source, reason := reason }, hold := seconds, holdTimer := true } } :=
    ⟨h1, h2, h3, h4, h5, h6, range.2, ⟨fun _ => range.1, fun _ => rfl⟩, h9⟩
  unfold State.takeHalt
  dsimp only
  split
  · exact ⟨h1, h2, h3, h4, h5, h6, h7, h8, h9⟩
  · split
    · exact viewLaw_haltBegins held
    · exact held

theorem viewLaw_originateHalt {seconds reason : Nat} (range : 1 ≤ seconds ∧ seconds ≤ 255) (law : s.ViewLaw) :
    (s.originateHalt seconds reason).ViewLaw := viewLaw_takeHalt range (viewLaw_placeFrame _ _ law)

theorem viewLaw_tripBegins {k : Configuration} (hk : s.cf.config = some k) (law : s.ViewLaw) : (s.tripBegins k).ViewLaw := by
  obtain ⟨-, -, -, -, -, -, -, -, trip⟩ := id law
  exact viewLaw_originateHalt (reason := 1) (trip k hk) law

theorem viewLaw_retrip (law : s.ViewLaw) : s.retrip.ViewLaw := by
  unfold State.retrip
  split
  · next k hk =>
    split
    · exact viewLaw_tripBegins hk law
    · exact law
  · exact law

/-! ## The tables (R25, R26, R28, R29) -/

/-- An entry that an accepted frame gives: below N, not the own, its fields in their ranges. -/
theorem peer_ofPayload_lawful {own station : Nat} {config : Option Configuration} (payload : List Byte) (h32 : station < 32)
    (hown : station ≠ own) (hN : ∀ k ∈ config, station < k.population) : (PeerEntry.ofPayload station payload).Lawful own config :=
  have two : ∀ pos, field payload pos 2 ≤ 65535 := fun pos => Nat.le_of_lt_succ (field_lt payload pos 2)
  ⟨h32, hown, hN, Nat.zero_lt_succ _, Nat.min_le_right _ _, two 2, two 4, two 6, two 8⟩

theorem viewLaw_handFrame {kind : FrameKind} {station : Nat} {payload : List Byte} (h32 : station < 32)
    (hown : station ≠ s.ownStation) (hN : ∀ k ∈ s.cf.config, station < k.population) (law : s.ViewLaw) :
    (s.handFrame kind station payload).ViewLaw := by
  unfold State.handFrame
  cases kind with
  | announce =>
    refine viewLaw_setView ?_
    obtain ⟨h1, h2, rest⟩ := law
    refine ⟨?_, fun e he => ?_, rest⟩
    · rw [insertPeer_eq]; exact ascending_placeByKey h1
    · rw [insertPeer_eq, mem_placeByKey h1] at he
      obtain rfl | ⟨he, -⟩ := he
      · exact peer_ofPayload_lawful payload h32 hown hN
      · exact h2 e he
  | curtail =>
    refine viewLaw_setView ?_
    obtain ⟨h1, h2, h3, h4, rest⟩ := law
    refine ⟨h1, h2, ?_, fun e he => ?_, rest⟩
    · rw [insertCurtail_eq]; exact ascending_placeByKey h3
    · rw [insertCurtail_eq, mem_placeByKey h3] at he
      obtain rfl | ⟨he, -⟩ := he
      · exact ⟨h32, hown, hN, by simp, Nat.min_le_right _ _⟩
      · exact h4 e he
  | halt =>
    have byte : field payload 0 1 < 256 := field_lt payload 0 1
    exact viewLaw_takeHalt ⟨Nat.le_max_left _ _, by omega⟩ law

/-- R6: an accepted frame's number is below 32, not the own one, and below N once configured. -/
theorem evaluateFrame_accepted {own : Nat} {population : Option Nat} {bytes payload : List Byte} {kind : FrameKind} {station : Nat}
    (h : evaluateFrame own population bytes = .accepted kind station payload) :
    station < 32 ∧ station ≠ own ∧ ∀ n ∈ population, station < n := by
  have checked : ∀ header body, evaluateChecked own population header body = .accepted kind station payload →
      station < 32 ∧ station ≠ own ∧ ∀ n ∈ population, station < n := by
    intro header body h
    have lt : header.toNat % 32 < 32 := Nat.mod_lt _ (by decide)
    unfold evaluateChecked at h
    dsimp only at h
    split at h
    · cases h
    · split at h
      · cases h
      · split at h
        · cases h
        · next ne =>
          split at h
          · split at h
            · cases h
            · next below =>
              cases h
              refine ⟨lt, ne, fun n hn => ?_⟩
              cases hn
              exact Nat.not_le.1 below
          · cases h
            exact ⟨lt, ne, fun n hn => by cases hn⟩
  unfold evaluateFrame at h
  split at h
  · dsimp only at h
    split at h
    · cases h
    · split at h
      · cases h
      · split at h
        · cases h
        · exact checked _ _ h
  · cases h

theorem clash_view (s : State) : s.clash.pv = s.pv ∧ s.clash.cf = s.cf ∧ s.clash.se.origin = s.se.origin := by
  simp [State.clash, State.orderZeroBoth]

theorem viewLaw_clash (law : s.ViewLaw) : s.clash.ViewLaw := by
  obtain ⟨hpv, hcf, horigin⟩ := clash_view s
  exact viewLaw_of_same hpv (by rw [hcf]) (by rw [hcf]) horigin law

theorem viewLaw_takeFrame (bytes : List Byte) (law : s.ViewLaw) : (s.takeFrame bytes).ViewLaw := by
  unfold State.takeFrame
  dsimp only
  split
  · exact law
  · exact law
  · exact viewLaw_clash (s := { s with li := s.li.frameEnds bytes false }) law
  · exact law
  · next h =>
    obtain ⟨h32, hown, hN⟩ := evaluateFrame_accepted h
    exact viewLaw_handFrame (s := { s with li := s.li.frameEnds bytes true }) h32 hown
      (fun k hk => hN k.population (Option.mem_map_of_mem _ hk)) law

theorem viewLaw_roundAgeing (law : s.ViewLaw) : s.roundAgeing.ViewLaw := by
  refine viewLaw_setView ?_
  obtain ⟨h1, h2, h3, h4, rest⟩ := law
  refine ⟨ascending_map_filter (by intro; rfl) h1 _, fun e he => ?_, ascending_map_filter (by intro; rfl) h3 _, fun e he => ?_, rest⟩
  · obtain ⟨hmem, hage⟩ := List.mem_filter.1 he
    obtain ⟨a, ha, rfl⟩ := List.mem_map.1 hmem
    obtain ⟨g1, g2, g3, -, fields⟩ := h2 a ha
    exact ⟨g1, g2, g3, of_decide_eq_true hage, fields⟩
  · obtain ⟨hmem, hage⟩ := List.mem_filter.1 he
    obtain ⟨a, ha, rfl⟩ := List.mem_map.1 hmem
    obtain ⟨g1, g2, g3, -, level⟩ := h4 a ha
    exact ⟨g1, g2, g3, of_decide_eq_true hage, level⟩

theorem movedEngine_origin (s : State) : (movedEngine s).origin = s.se.origin := by
  have fixed : s.se.fixOutcome.origin = s.se.origin := by
    unfold ShareEngine.fixOutcome; split
    · rfl
    · split <;> rfl
  have moved : ∀ (e : ShareEngine) f, (e.transition f).origin = e.origin := fun e f => by
    unfold ShareEngine.transition ShareEngine.enterAtRound
    cases e.state with
    | unconfigured => rfl
    | barred => rfl
    | joining =>
      dsimp only
      split
      · rfl
      · split <;> rfl
    | sharing => dsimp only; split <;> rfl
    | isolated => dsimp only; split <;> rfl
  exact (moved _ _).trans fixed

theorem viewLaw_round (law : s.ViewLaw) : (announced s).roundOriginate.ViewLaw := by
  have before : (announced s).ViewLaw := by
    obtain ⟨hcf, hpv, -⟩ := announced_frame s
    obtain ⟨acf, -, ase, apv, -⟩ := roundAgeing_frame s
    have origin : (announced s).se.origin = s.se.origin := by
      rw [announced_se, computed_se]
      exact movedEngine_origin s
    exact viewLaw_of_same (s := s.roundAgeing) (hpv.trans apv.symm) (by rw [hcf, acf]) (by rw [hcf, acf]) (by rw [origin, ase])
      (viewLaw_roundAgeing law)
  generalize announced s = u at before
  have first : (if u.se.origin < 100 then u.placeCurtail u.se.origin else u).ViewLaw := by
    split
    · exact viewLaw_placeFrame _ _ before
    · exact before
  unfold State.roundOriginate
  dsimp only
  generalize (if u.se.origin < 100 then u.placeCurtail u.se.origin else u) = t at first
  split
  · exact first
  · next k hk =>
    split
    · exact first
    · split
      · exact first
      · exact viewLaw_tripBegins hk first

/-! ## The owners of the link's commands -/

theorem viewLaw_acceptConfiguration {k : Configuration} (trip : 1 ≤ k.tripSeconds ∧ k.tripSeconds ≤ 255) (law : s.ViewLaw) :
    (s.acceptConfiguration k).ViewLaw := by
  have restricted : State.ViewLaw { s with cf := { s.cf with config := some k }, pv := s.pv.restrict k.population } := by
    obtain ⟨h1, h2, h3, h4, h5, h6, h7, h8, -⟩ := law
    refine ⟨h1.filter _, fun e he => ?_, h3.filter _, fun e he => ?_, h5, h6, h7, h8, ?_⟩
    · obtain ⟨he, below⟩ := List.mem_filter.1 he
      obtain ⟨g1, g2, -, fields⟩ := h2 e he
      refine ⟨g1, g2, fun k' hk => ?_, fields⟩
      cases hk
      exact of_decide_eq_true below
    · obtain ⟨he, below⟩ := List.mem_filter.1 he
      obtain ⟨g1, g2, -, fields⟩ := h4 e he
      refine ⟨g1, g2, fun k' hk => ?_, fields⟩
      cases hk
      exact of_decide_eq_true below
    · intro k' hk
      cases hk
      exact trip
  unfold State.acceptConfiguration
  refine viewLaw_retrip ?_
  have set := viewLaw_setView (s := { s with cf := { s.cf with config := some k } }) restricted
  dsimp only
  generalize State.setView { s with cf := { s.cf with config := some k } } (s.pv.restrict k.population) = u at set ⊢
  unfold State.joinAtConfigure
  split
  · exact set
  · exact set

theorem viewLaw_setOrigin {level : Nat} (range : level ≤ 100) (law : s.ViewLaw) : (s.setOrigin level).ViewLaw := by
  obtain ⟨h1, h2, h3, h4, -, -, h7, h8, h9⟩ := law
  refine viewLaw_placeFrame _ _ (viewLaw_setView ?_)
  exact ⟨h1, h2, h3, h4, range, rfl, h7, h8, h9⟩

theorem viewLaw_serviceRestart (law : s.ViewLaw) : s.serviceRestart.ViewLaw := by
  have work := restartBoth_work s
  obtain ⟨-, -, -, -, -, -, -, -, trip⟩ := law
  unfold State.serviceRestart
  dsimp only
  generalize (((s.restartStage .a).restartStage .b).restartOutlet .a).restartOutlet .b = t at work
  refine viewLaw_retrip ?_
  have origin : t.se.restart.origin = 100 := by
    unfold ShareEngine.restart; cases t.se.state <;> rfl
  unfold State.ViewLaw State.ownStation
  dsimp only
  rw [origin, work.cf]
  exact ⟨.nil, by simp, .nil, by simp, by simp, by simp, by simp, by simp, trip⟩

/-- The commands that leave the peer view, the share engine, the straps and the configuration as they are. -/
theorem run_view (cmd : LinkCommand) (data : List Byte) :
    cmd = .configure ∨ cmd = .restart ∨ cmd = .setCurtail ∨ cmd = .siteHalt ∨
    (cmd.run data s).state.pv = s.pv ∧ (cmd.run data s).state.se = s.se ∧ (cmd.run data s).state.cf.straps = s.cf.straps ∧
      (cmd.run data s).state.cf.config = s.cf.config := by
  have read := reading_state s cmd data
  have worked : ∀ {t : State}, OutletsWork s t → t.pv = s.pv ∧ t.se = s.se ∧ t.cf.straps = s.cf.straps ∧ t.cf.config = s.cf.config :=
    fun work => ⟨work.pv, work.se, by rw [work.cf], by rw [work.cf]⟩
  cases cmd
  case configure => exact .inl rfl
  case restart => exact .inr (.inl rfl)
  case setCurtail => exact .inr (.inr (.inl rfl))
  case siteHalt => exact .inr (.inr (.inr (.inl rfl)))
  all_goals refine .inr (.inr (.inr (.inr ?_)))
  case setClock =>
    dsimp only [LinkCommand.run]
    unfold setClockCommand
    split
    · exact ⟨rfl, rfl, rfl, rfl⟩
    · generalize hu : { s with cf := { s.cf with day := field data 0 2, second := field data 2 3, clockSet := true } } = u
      have work := (stepClock_work u .a).toOutletsWork.trans (stepClock_work _ .b).toOutletsWork
      subst hu
      exact ⟨work.pv, work.se, congrArg (·.straps) work.cf, congrArg (·.config) work.cf⟩
  case loadTariff =>
    dsimp only [LinkCommand.run]
    unfold loadTariffCommand
    split
    · exact ⟨rfl, rfl, rfl, rfl⟩
    · split <;> exact ⟨rfl, rfl, rfl, rfl⟩
  case openSession =>
    obtain same | opened := openSession_cases s data
    · rw [LinkCommand.run, same]; exact ⟨rfl, rfl, rfl, rfl⟩
    · obtain ⟨x, d, bank, tariff, -, -, -, -, -, h⟩ := opened
      rw [LinkCommand.run, h]
      generalize s.newRecord x d bank tariff = r
      have work := placeSession_work (s.bookSession x r) x
      obtain ⟨cf, se, -⟩ := bookSession_frame s x r
      have pv : (s.bookSession x r).pv = s.pv := by simp [State.bookSession]
      exact ⟨work.pv.trans pv, work.se.trans se, by rw [work.cf, cf], by rw [work.cf, cf]⟩
  case demand =>
    dsimp only [LinkCommand.run]
    unfold demandCommand
    split
    · exact ⟨rfl, rfl, rfl, rfl⟩
    · next x _ =>
      split
      · exact ⟨rfl, rfl, rfl, rfl⟩
      · split
        · exact ⟨rfl, rfl, rfl, rfl⟩
        · split
          · exact worked (modSc_work s x (fun c => { c with requested := min (field data 1 2) (s.rating x) }) (by intro; rfl)).toOutletsWork
          · exact ⟨rfl, rfl, rfl, rfl⟩
  case stopSession =>
    dsimp only [LinkCommand.run]
    unfold stopSessionCommand
    split
    · exact ⟨rfl, rfl, rfl, rfl⟩
    · split
      · exact ⟨rfl, rfl, rfl, rfl⟩
      · split
        · exact ⟨rfl, rfl, rfl, rfl⟩
        · exact worked (stopSessionAt_work s _ _).toOutletsWork
  case releaseSettlement =>
    dsimp only [LinkCommand.run]
    unfold releaseSettlementCommand
    split
    · exact ⟨rfl, rfl, rfl, rfl⟩
    · split
      · exact ⟨rfl, rfl, rfl, rfl⟩
      · split <;> exact ⟨rfl, rfl, rfl, rfl⟩
  case clearCauses => dsimp only [LinkCommand.run]; unfold clearCausesCommand; split <;> exact ⟨rfl, rfl, rfl, rfl⟩
  case setMask => dsimp only [LinkCommand.run]; unfold setMaskCommand; split <;> exact ⟨rfl, rfl, rfl, rfl⟩
  all_goals rw [read (by simp)]; exact ⟨rfl, rfl, rfl, rfl⟩

theorem viewLaw_configure (data : List Byte) (law : s.ViewLaw) : (configureCommand data s).state.ViewLaw := by
  have seconds : field data 18 1 < 256 := field_lt data 18 1
  unfold configureCommand
  dsimp only
  split
  · exact law
  · split
    · next h =>
      obtain ⟨-, -, -, -, -, -, -, -, -, -, -, -, trip, -⟩ := h
      exact viewLaw_acceptConfiguration ⟨trip, Nat.le_of_lt_succ seconds⟩ law
    · exact law

theorem viewLaw_restart (data : List Byte) (law : s.ViewLaw) : (restartCommand data s).state.ViewLaw := by
  unfold restartCommand
  split
  · exact law
  · show State.ViewLaw s.serviceRestart.hearAllInRestart
    rw [(s.serviceRestart.hearAllInRestart_spec).1]
    exact viewLaw_serviceRestart law

theorem viewLaw_setCurtail (data : List Byte) (law : s.ViewLaw) : (setCurtailCommand data s).state.ViewLaw := by
  unfold setCurtailCommand
  dsimp only
  split
  · exact law
  · next h =>
    split
    · exact law
    · split
      · exact law
      · exact viewLaw_setOrigin (Nat.not_lt.1 fun above => h (.inr above)) law

theorem viewLaw_siteHalt (data : List Byte) (law : s.ViewLaw) : (siteHaltCommand data s).state.ViewLaw := by
  have byte : field data 0 1 < 256 := field_lt data 0 1
  unfold siteHaltCommand
  dsimp only
  split
  · exact law
  · next h =>
    split
    · exact law
    · exact viewLaw_originateHalt ⟨Nat.pos_of_ne_zero fun zero => h (.inr zero), Nat.le_of_lt_succ byte⟩ law

theorem viewLaw_run (cmd : LinkCommand) (data : List Byte) (law : s.ViewLaw) : (cmd.run data s).state.ViewLaw := by
  obtain rfl | rfl | rfl | rfl | ⟨hpv, hse, hstraps, hconfig⟩ := run_view (s := s) cmd data
  · exact viewLaw_configure data law
  · exact viewLaw_restart data law
  · exact viewLaw_setCurtail data law
  · exact viewLaw_siteHalt data law
  · exact viewLaw_of_same hpv hconfig hstraps (by rw [hse]) law

end

/-! ## Every command -/

theorem viewLaw_holdTimerExpiry {s t : State} (h : exec .holdTimerExpiry s = .next t) (law : s.ViewLaw) : t.ViewLaw := by
  obtain ⟨h1, h2, h3, h4, h5, h6, h7, h8, h9⟩ := id law
  simp only [exec, execHoldTimerExpiry] at h
  split at h
  · next running =>
    split at h
    · next more =>
      cases h
      exact ⟨h1, h2, h3, h4, h5, h6, (Nat.sub_le _ _).trans h7, ⟨fun _ => Nat.sub_pos_of_lt more, fun _ => running⟩, h9⟩
    · cases h
      refine viewLaw_of_work (s := { s with pv := { s.pv with hold := 0, holdTimer := false } })
        ((resume_work _ .a).toOutletsWork.trans (resume_work _ .b).toOutletsWork) ?_
      exact ⟨h1, h2, h3, h4, h5, h6, by simp, by simp, h9⟩
  · cases h; exact law

/-- Every command keeps the law of the peer view. -/
theorem exec_keeps_viewLaw {s t : State} : ∀ c : Instr, exec c s = .next t → s.ViewLaw → t.ViewLaw := by
  refine casesByBlock ?_ ?_ ?_ ?_ ?_ ?_ ?_ ?_ ?_ ?_ ?_ ?_ ?_
  · intro pins levels h _
    injection h with h
    subst h
    exact ⟨.nil, by simp, .nil, by simp, by simp, by simp, by simp, by simp, by simp⟩
  · intro h law
    simp only [exec, execClockTick] at h
    split at h <;> cases h <;> exact law
  · intro h law
    rw [exec_round] at h
    injection h with h
    exact h ▸ viewLaw_round law
  · intro cell h law
    simp only [exec, execNumberClash] at h
    split at h
    · cases h; exact law
    · split at h
      · cases h; exact viewLaw_clash law
      · split at h
        · split at h <;> cases h
          · exact viewLaw_clash (s := { s with li := _ }) law
          · exact law
        all_goals cases h; exact law
  · intro bytes h law
    simp only [exec, execFrameEvaluation] at h
    split at h <;> cases h
    · exact viewLaw_takeFrame bytes law
    · exact law
  · exact fun h law => viewLaw_holdTimerExpiry h law
  · intro h law
    simp only [exec, execSiteTripAsserted] at h
    split at h
    · cases h; exact law
    · split at h <;> cases h
      · next hk => exact viewLaw_tripBegins (s := { s with se := { s.se with tripInput := true } }) hk law
      · exact law
  · intro h law
    simp only [exec, execSiteTripReleased] at h
    split at h <;> cases h <;> exact law
  · intro h law
    simp only [exec, execEmergencyStopAsserted] at h
    split at h <;> cases h
    · exact law
    · exact viewLaw_of_work (stopBoth_work { s with estop := true }) law
  · intro h law
    simp only [exec, execEmergencyStopReleased] at h
    split at h <;> cases h
    · exact viewLaw_of_work (s := { s with estop := false })
        ((releaseOutlet_work _ .a).toOutletsWork.trans (releaseOutlet_work _ .b).toOutletsWork) law
    · exact law
  · intro c hc h law
    rw [exec_lineRow hc h]
    exact law
  · exact fun c x hc h law => viewLaw_of_work (exec_outletEvent hc h).toOutletsWork law
  · intro c hc h law
    cases exec_linkStep hc h with
    | stays p => exact law
    | takes cmd data p =>
      exact viewLaw_of_same (s := (cmd.run data { s with pk := p }).state) rfl rfl rfl rfl
        (viewLaw_run (s := { s with pk := p }) cmd data law)

/-- Settles O54: a step is one command, which keeps the law, and the law bounds both tables. -/
theorem stepKeepsViewLaw : Obligations.StepKeepsViewLaw := by
  intro s t law h
  have kept : t.ViewLaw := by
    unfold step at h
    split at h
    · cases h; exact law
    · exact exec_keeps_viewLaw _ h law
  obtain ⟨h1, h2, h3, h4, -⟩ := id kept
  have own : t.ownStation < 32 := t.cf.straps.station.isLt
  have peers := length_le_of_ascending own h1 fun e he => ⟨(h2 e he).1, (h2 e he).2.1⟩
  have curtail := length_le_of_ascending own h3 fun e he => ⟨(h4 e he).1, (h4 e he).2.1⟩
  exact ⟨kept, peers.2, curtail.2, peers.1⟩

end Sys2Proof.Proofs.ViewLaw
end

section
/-! A law that speaks of the outlets, the emergency stop, the straps, the tariff banks and the settlement queue alone is kept by every
command once the operations that the commands are made of keep it. -/

namespace Sys2Proof.Proofs.EveryCommand

open Machine OutletOperations OutletEvents PedestalLink StationWork RoundSteps RoundLaw ShareLaw

/-- The outlets, the emergency stop, the straps, the tariff banks and the settlement queue are the same. -/
structure SameOutlets (s t : State) : Prop where
  outA : t.outA = s.outA
  outB : t.outB = s.outB
  estop : t.estop = s.estop
  straps : t.cf.straps = s.cf.straps
  ts : t.ts = s.ts
  sq : t.sq = s.sq

/-- The operations that commands are made of keep the law. -/
structure KeptByOperations (P : State → Prop) : Prop where
  same : ∀ {s t}, SameOutlets s t → P s → P t
  reset : ∀ {pins levels s t}, exec (.hardReset pins levels) s = .next t → P t
  orderZero : ∀ s x, P s → P (s.order x 0)
  suspend : ∀ s x, P s → P (s.suspend x)
  resume : ∀ s x, P s → P (s.resume x)
  clash : ∀ s x, P s → P (s.clashOutlet x)
  ceiling : ∀ s x c, c ≤ s.outletDemand x → P s → P (s.giveCeiling x c)
  draw : ∀ s x, P s → P (s.recordDraw x)
  stop : ∀ s, P s → P (((({ s with estop := true }.stopStage .a).stopStage .b).stopOutlet .a).stopOutlet .b)
  release : ∀ s, s.estop = true → P s → P (({ s with estop := false }.releaseOutlet .a).releaseOutlet .b)
  restart : ∀ s, P s → P ((((s.restartStage .a).restartStage .b).restartOutlet .a).restartOutlet .b)
  event : ∀ {c x s t}, c.outletEvent = some x → exec c s = .next t → P s → P t
  stepClock : ∀ s x, P s → P (s.stepClock x)
  load : ∀ s data, P s → P (loadTariffCommand data s).state
  opened : ∀ {s t}, Opened s t → P s → P t
  demand : ∀ s data, P s → P (demandCommand data s).state
  stopSession : ∀ s x reason, s.fitted x = true → P s → P (s.stopSessionAt x reason).state
  released : ∀ {s e rest}, s.sq.queue = e :: rest → P s → P { s with sq := { s.sq with queue := rest } }

namespace KeptByOperations

variable {P : State → Prop} (kept : KeptByOperations P) {s : State}
include kept

/-- Work outside what the law speaks of. -/
theorem off {t : State} (h : P s) (outA : t.outA = s.outA := by rfl) (outB : t.outB = s.outB := by rfl)
    (estop : t.estop = s.estop := by rfl) (straps : t.cf.straps = s.cf.straps := by rfl) (ts : t.ts = s.ts := by rfl)
    (sq : t.sq = s.sq := by rfl) : P t := kept.same ⟨outA, outB, estop, straps, ts, sq⟩ h

/-! ## Halts and the clash -/

theorem orderZeroBoth (h : P s) : P s.orderZeroBoth := kept.orderZero _ .b (kept.orderZero _ .a h)

theorem setView (v : PeerView) (h : P s) : P (s.setView v) := by
  obtain ⟨hcf, -, -, -, hA, hB, hestop, -, -, hts, hsq, -⟩ := setView_frame s v
  exact kept.same ⟨hA, hB, hestop, by rw [hcf], hts, hsq⟩ h

theorem placeFrame (k : FrameKind) (bytes : List Byte) (h : P s) : P (s.placeFrame k bytes) := by
  obtain ⟨hcf, -, -, hA, hB, hestop, -, -, hts, hsq, -⟩ := placeFrame_frame s k bytes
  exact kept.same ⟨hA, hB, hestop, by rw [hcf], hts, hsq⟩ h

theorem haltBegins (h : P s) : P s.haltBegins :=
  kept.suspend _ .b (kept.suspend _ .a (kept.orderZeroBoth (kept.off h)))

theorem haltEnds (h : P s) : P s.haltEnds := kept.resume _ .b (kept.resume _ .a h)

theorem takeHalt (source seconds reason : Nat) (h : P s) : P (s.takeHalt source seconds reason) := by
  unfold State.takeHalt
  dsimp only
  split
  · exact kept.off h
  · split
    · exact kept.haltBegins (kept.off h)
    · exact kept.off h

theorem originateHalt (seconds reason : Nat) (h : P s) : P (s.originateHalt seconds reason) :=
  kept.takeHalt _ _ _ (kept.placeFrame _ _ h)

theorem tripBegins (k : Configuration) (h : P s) : P (s.tripBegins k) :=
  kept.off (kept.originateHalt k.tripSeconds 1 h)

theorem retrip (h : P s) : P s.retrip := by
  unfold State.retrip
  split
  · split
    · exact kept.tripBegins _ h
    · exact h
  · exact h

theorem numberClash (h : P s) : P s.clash := by
  unfold State.clash
  refine kept.clash _ .b (kept.clash _ .a (kept.off (s := State.orderZeroBoth _) (kept.orderZeroBoth ?_)))
  exact kept.off h

theorem takeFrame (bytes : List Byte) (h : P s) : P (s.takeFrame bytes) := by
  have frame : ∀ acked, P { s with li := s.li.frameEnds bytes acked } := fun _ => kept.off h
  unfold State.takeFrame
  dsimp only
  split
  · exact frame false
  · exact frame false
  · exact kept.numberClash (frame false)
  · exact kept.off (frame false)
  · next kind station payload _ =>
    have accepted := frame true
    unfold State.handFrame
    split
    · exact kept.setView _ accepted
    · exact kept.setView _ accepted
    · exact kept.takeHalt _ _ _ accepted

/-! ## The round -/

theorem roundSplit (h : P s) : P s.roundSplit := by
  unfold State.roundSplit
  split
  · obtain ⟨-, hA, hB⟩ := splitCeiling_bounds s.se.ceiling (s.outletDemand .a) (s.outletDemand .b)
    dsimp only
    refine kept.ceiling _ .b _ ?_ (kept.ceiling _ .a _ hA h)
    have same : (s.giveCeiling .a (splitCeiling s.se.ceiling (s.outletDemand .a) (s.outletDemand .b)).1).outletDemand .b =
        s.outletDemand .b := by
      unfold State.outletDemand
      rw [giveCeiling_other _ .a _ .b (by decide), fitted_of_cf (giveCeiling_frame s .a _).1]
    rw [same]
    exact hB
  · exact h

theorem round (h : P s) : P (announced s).roundOriginate := by
  have first : P (computed s) := by
    obtain ⟨hcf, -, -, hA, hB, hestop, -, -, hts, hsq, -⟩ := computed_frame s
    exact kept.same ⟨hA, hB, hestop, by rw [hcf], hts, hsq⟩ h
  have sixth : P (announced s) := by
    have drawn := kept.draw _ .b (kept.draw _ .a (kept.roundSplit first))
    obtain ⟨hcf, -, hA, hB, hestop, -, -, hts, hsq, -⟩ := roundAnnounce_frame ((computed s).roundSplit.recordDraw .a |>.recordDraw .b)
    exact kept.same ⟨hA, hB, hestop, congrArg ConfigClock.straps hcf, hts, hsq⟩ drawn
  generalize announced s = u at sixth
  have placed : P (if u.se.origin < 100 then u.placeCurtail u.se.origin else u) := by
    split
    · exact kept.placeFrame _ _ sixth
    · exact sixth
  unfold State.roundOriginate
  dsimp only
  generalize (if u.se.origin < 100 then u.placeCurtail u.se.origin else u) = v at placed
  split
  · exact placed
  · split
    · exact placed
    · split
      · exact kept.off placed
      · exact kept.tripBegins _ placed

/-! ## The owners of the link's commands -/

theorem configure (data : List Byte) (h : P s) : P (configureCommand data s).state := by
  unfold configureCommand
  dsimp only
  split
  · exact h
  · split
    · unfold Reply.state State.accept State.acceptConfiguration
      refine kept.retrip ?_
      have set := kept.setView (s := { s with cf := { s.cf with config := some (readConfiguration data) } })
        (s.pv.restrict (readConfiguration data).population) (kept.off h)
      unfold State.joinAtConfigure
      split
      · exact kept.off set
      · exact set
    · exact h

theorem setClock (data : List Byte) (h : P s) : P (setClockCommand data s).state := by
  unfold setClockCommand
  split
  · exact h
  · exact kept.stepClock _ .b (kept.stepClock _ .a (kept.off h))

theorem restartCommand (data : List Byte) (h : P s) : P (Machine.restartCommand data s).state := by
  unfold Machine.restartCommand
  split
  · exact h
  · show P s.serviceRestart.hearAllInRestart
    rw [(s.serviceRestart.hearAllInRestart_spec).1]
    refine kept.off (s := s.serviceRestart) ?_
    unfold State.serviceRestart
    exact kept.retrip (kept.off (kept.restart s h))

theorem setCurtail (data : List Byte) (h : P s) : P (setCurtailCommand data s).state := by
  unfold setCurtailCommand
  dsimp only
  split
  · exact h
  · split
    · exact h
    · split
      · exact h
      · exact kept.placeFrame _ _ (kept.setView _ (kept.off h))

theorem siteHalt (data : List Byte) (h : P s) : P (siteHaltCommand data s).state := by
  unfold siteHaltCommand
  dsimp only
  split
  · exact h
  · split
    · exact h
    · exact kept.originateHalt _ _ h

theorem openSession (data : List Byte) (h : P s) : P (openSessionCommand data s).state := by
  obtain same | opened := openSession_cases s data
  · rw [same]; exact h
  · exact kept.opened opened h

theorem stopSessionCommand (data : List Byte) (h : P s) : P (Machine.stopSessionCommand data s).state := by
  unfold Machine.stopSessionCommand
  split
  · exact h
  · split
    · exact h
    · split
      · exact h
      · next hfitted => exact kept.stopSession _ _ _ (Bool.eq_true_of_not_eq_false hfitted) h

theorem releaseSettlement (data : List Byte) (h : P s) : P (releaseSettlementCommand data s).state := by
  unfold releaseSettlementCommand
  split
  · exact h
  · split
    · exact h
    · next e rest hqueue =>
      split
      · exact kept.released hqueue h
      · exact h

theorem run (cmd : LinkCommand) (data : List Byte) (h : P s) : P (cmd.run data s).state := by
  have read := reading_state s cmd data
  cases cmd
  case configure => exact kept.configure data h
  case setClock => exact kept.setClock data h
  case restart => exact kept.restartCommand data h
  case loadTariff => exact kept.load s data h
  case openSession => exact kept.openSession data h
  case demand => exact kept.demand s data h
  case stopSession => exact kept.stopSessionCommand data h
  case setCurtail => exact kept.setCurtail data h
  case siteHalt => exact kept.siteHalt data h
  case releaseSettlement => exact kept.releaseSettlement data h
  case clearCauses =>
    dsimp only [LinkCommand.run]; unfold clearCausesCommand; split <;> exact kept.off h
  case setMask =>
    dsimp only [LinkCommand.run]; unfold setMaskCommand; split <;> exact kept.off h
  all_goals rw [read (by simp)]; exact h

/-! ## Every command -/

theorem exec {t : State} : ∀ c : Instr, Machine.exec c s = .next t → P s → P t := by
  refine casesByBlock ?_ ?_ ?_ ?_ ?_ ?_ ?_ ?_ ?_ ?_ ?_ ?_ ?_
  · exact fun pins levels h _ => kept.reset h
  · intro h law
    simp only [Machine.exec, execClockTick] at h
    split at h <;> cases h <;> exact kept.off law
  · intro h law
    rw [exec_round] at h
    injection h with h
    exact h ▸ kept.round law
  · intro cell h law
    simp only [Machine.exec, execNumberClash] at h
    split at h
    · cases h; exact law
    · split at h
      · cases h; exact kept.numberClash law
      · split at h
        · split at h <;> cases h
          · exact kept.numberClash (kept.off law)
          · exact law
        all_goals cases h; exact law
  · intro bytes h law
    simp only [Machine.exec, execFrameEvaluation] at h
    split at h <;> cases h
    · exact kept.takeFrame bytes law
    · exact law
  · intro h law
    simp only [Machine.exec, execHoldTimerExpiry] at h
    split at h
    · split at h <;> cases h
      · exact kept.off law
      · exact kept.haltEnds (kept.off law)
    · cases h; exact law
  · intro h law
    have asserted : P { s with se := { s.se with tripInput := true } } := kept.off law
    simp only [Machine.exec, execSiteTripAsserted] at h
    split at h
    · cases h; exact law
    · split at h <;> cases h
      · exact kept.tripBegins _ asserted
      · exact asserted
  · intro h law
    simp only [Machine.exec, execSiteTripReleased] at h
    split at h <;> cases h
    · exact kept.off law
    · exact law
  · intro h law
    simp only [Machine.exec, execEmergencyStopAsserted] at h
    split at h <;> cases h
    · exact law
    · exact kept.stop s law
  · intro h law
    simp only [Machine.exec, execEmergencyStopReleased] at h
    split at h
    · next asserted => cases h; exact kept.release s asserted law
    · cases h; exact law
  · intro c hc h law
    rw [exec_lineRow hc h]
    exact kept.off law
  · exact fun c x hc h law => kept.event hc h law
  · intro c hc h law
    cases exec_linkStep hc h with
    | stays p => exact kept.off law
    | takes cmd data p =>
      exact kept.off (s := (cmd.run data { s with pk := p }).state) (kept.run cmd data (kept.off law))

/-- A step keeps the law. -/
theorem step {t : State} (h : Machine.step s = .next t) (law : P s) : P t := by
  unfold Machine.step at h
  split at h
  · cases h; exact law
  · exact kept.exec _ h (kept.off law)

end KeptByOperations

end Sys2Proof.Proofs.EveryCommand
end

section
/-! The band in force (R157). -/

namespace Sys2Proof.Proofs.TariffBands

open Machine

/-- The search hands back the answer so far when no band starts in time, else the last that does. -/
theorem bandFrom_cases (m : Nat) (bands : List Band) (i : Nat) (found : Nat × Nat) :
    ((∀ b ∈ bands, m < b.start) ∧ bandFrom m bands i found = found) ∨
    ∃ j b, bands[j]? = some b ∧ b.start ≤ m ∧ (∀ k c, j < k → bands[k]? = some c → m < c.start) ∧
      bandFrom m bands i found = (i + j, b.price) := by
  induction bands generalizing i found with
  | nil => exact .inl ⟨by simp, rfl⟩
  | cons b rest ih =>
    obtain ⟨above, same⟩ | ⟨j, c, hc, hstart, later, last⟩ := ih (i + 1) (if b.start ≤ m then (i, b.price) else found)
    · by_cases hb : b.start ≤ m
      · refine .inr ⟨0, b, rfl, hb, fun k c hk hkc => ?_, ?_⟩
        · obtain ⟨k, rfl⟩ := Nat.exists_eq_succ_of_ne_zero (Nat.ne_of_gt hk)
          exact above c (List.mem_of_getElem? hkc)
        · rw [bandFrom, same, if_pos hb]; rfl
      · refine .inl ⟨fun c hmem => ?_, ?_⟩
        · obtain rfl | hmem := List.mem_cons.1 hmem
          · exact Nat.not_le.1 hb
          · exact above c hmem
        · rw [bandFrom, same, if_neg hb]
    · refine .inr ⟨j + 1, c, hc, hstart, fun k d hk hkd => ?_, ?_⟩
      · obtain ⟨k, rfl⟩ := Nat.exists_eq_succ_of_ne_zero (Nat.ne_of_gt (Nat.lt_of_le_of_lt (Nat.zero_le _) hk))
        exact later k d (Nat.lt_of_succ_lt_succ hk) hkd
      · rw [bandFrom, last, Nat.add_assoc, Nat.add_comm 1 j]

/-- R157: a first band that starts at minute 0 is always in time, so the search finds one. -/
theorem bandAt_spec {t : Tariff} (m : Nat) (h : t.StartsAtZero) : ∃ b, t.bands[(t.bandAt m).1]? = some b ∧
    b.price = (t.bandAt m).2 ∧ b.start ≤ m ∧ ∀ j c, (t.bandAt m).1 < j → t.bands[j]? = some c → m < c.start := by
  unfold Tariff.bandAt
  obtain ⟨above, -⟩ | ⟨j, b, hb, hstart, later, last⟩ := bandFrom_cases m t.bands 0 (0, 0)
  · obtain ⟨first, hfirst, zero⟩ := Option.map_eq_some_iff.1 h
    have := above first (List.mem_of_head? hfirst)
    omega
  · rw [last, Nat.zero_add]
    exact ⟨b, hb, rfl, hstart, later⟩

/-- Settles O50, by the search over the bands. -/
theorem bandInForce : Obligations.BandInForce := fun _ m h => bandAt_spec m h

end Sys2Proof.Proofs.TariffBands
end

section
/-! The law of the bill (R142, R153, R155, R156, R158, R161, R167): every open session has its place, its bank and its prices, every settled
one its amount, and no operation parts a record from them. -/

namespace Sys2Proof.Proofs.BillLaw

open Machine OutletOperations OutletEvents StationWork EveryCommand TariffBands RoundSteps

/-! ## The law outlet by outlet -/

/-- The record's figures are lawful, and its bank holds the tariff that the session took and priced it. -/
def Priced (b : TariffStore) (r : SessionRecord) : Prop :=
  r.Lawful ∧ ∃ t, (b.bank r.bank).tariff = some t ∧ t.id = r.tariffId ∧ t.fee = r.fee ∧ r.PricedBy t

/-- A number summed over the two outlets. -/
def perOutlet (g : Outlet → Nat) : Nat := g .a + g .b

theorem perOutlet_change {g g' : Outlet → Nat} (x : Outlet) (h : ∀ y, y ≠ x → g' y = g y) :
    perOutlet g' + g x = perOutlet g + g' x := by
  unfold perOutlet
  cases x
  · rw [h .b (by decide)]; omega
  · rw [h .a (by decide)]; omega

/-- How many sessions an outlet has open, 0 or 1. -/
def openAt (s : State) (x : Outlet) : Nat := (s.outlet x).sc.session.toList.length

/-- How many sessions an outlet has open that are bound to the bank. -/
def boundAt (s : State) (i : BankId) (x : Outlet) : Nat := ((s.outlet x).sc.session.toList.filter fun r => r.bank == i).length

/-- An outlet that is VACANT, or OUT_OF_SERVICE without an open check. -/
def Unused (c : SessionOutlet) : Prop := c.state = .vacant ∨ (c.state = .outOfService ∧ c.openCheck = false)

/-- The law of the bill, with the sessions counted outlet by outlet and the banks named by their number. -/
structure Bill (s : State) : Prop where
  reserved : s.sq.reserved = perOutlet (openAt s)
  places : s.sq.queue.length + s.sq.reserved ≤ 16
  bound : ∀ i, (s.ts.bank i).bound = perOutlet (boundAt s i)
  active : ∀ i, s.ts.active = some i → (s.ts.bank i).tariff.isSome = true
  starts : ∀ i t, (s.ts.bank i).tariff = some t → t.StartsAtZero
  priced : ∀ x r, (s.outlet x).sc.session = some r → Priced s.ts r
  unused : ∀ x, Unused (s.outlet x).sc → (s.outlet x).sc.session = none
  queued : ∀ e ∈ s.sq.queue, e.record.Lawful ∧ e.amount = (e.record.total + 5000) / 10000

theorem mem_openSessions_iff (s : State) (r : SessionRecord) : r ∈ s.openSessions ↔ ∃ x, (s.outlet x).sc.session = some r := by
  unfold State.openSessions
  rw [List.mem_append, Option.mem_toList, Option.mem_toList]
  constructor
  · rintro (h | h)
    · exact ⟨.a, h⟩
    · exact ⟨.b, h⟩
  · rintro ⟨x, h⟩
    cases x
    · exact .inl h
    · exact .inr h

theorem openSessions_length (s : State) : s.openSessions.length = perOutlet (openAt s) := by
  simp [State.openSessions, perOutlet, openAt]

theorem boundTo_eq (s : State) (i : BankId) : s.boundTo i = perOutlet (boundAt s i) := by
  simp [State.boundTo, State.openSessions, perOutlet, boundAt, List.filter_append]

theorem billLaw_iff (s : State) : s.BillLaw ↔ Bill s := by
  constructor
  · rintro ⟨⟨hres, hplaces, hb0, hb1, hactive, htaken, hunused⟩, hz0, hz1, hrecords, hqueued⟩
    refine ⟨hres.trans (openSessions_length s), hplaces, ?_, fun i h => hactive i h, ?_, fun x r h => ?_, hunused, hqueued⟩
    · intro i
      rw [← boundTo_eq]
      cases i
      · exact hb0
      · exact hb1
    · intro i t h
      cases i
      · exact hz0 t h
      · exact hz1 t h
    · have mem := (mem_openSessions_iff s r).2 ⟨x, h⟩
      obtain ⟨t, ht, hid⟩ := Option.map_eq_some_iff.1 (htaken r mem)
      obtain ⟨hid, hfee⟩ := Prod.mk.inj hid
      obtain ⟨hlaw, hpriced⟩ := hrecords r mem
      exact ⟨hlaw, t, ht, hid, hfee, hpriced t ht⟩
  · rintro ⟨hres, hplaces, hbound, hactive, hstarts, hpriced, hunused, hqueued⟩
    refine ⟨⟨hres.trans (openSessions_length s).symm, hplaces, (hbound .bank0).trans (boundTo_eq s _).symm,
      (hbound .bank1).trans (boundTo_eq s _).symm, fun i h => hactive i h, fun r hr => ?_, hunused⟩,
      fun t h => hstarts .bank0 t h, fun t h => hstarts .bank1 t h, fun r hr => ?_, hqueued⟩
    · obtain ⟨x, hx⟩ := (mem_openSessions_iff s r).1 hr
      obtain ⟨-, t, ht, hid, hfee, -⟩ := hpriced x r hx
      rw [ht, Option.map_some, hid, hfee]
    · obtain ⟨x, hx⟩ := (mem_openSessions_iff s r).1 hr
      obtain ⟨hlaw, t, ht, -, -, hby⟩ := hpriced x r hx
      refine ⟨hlaw, fun t' ht' => ?_⟩
      rw [Option.mem_def, ht] at ht'
      cases ht'
      exact hby

/-! ## The banks -/

theorem bank_setBank (b : TariffStore) (i j : BankId) (k : Bank) : (b.setBank i k).bank j = if j = i then k else b.bank j := by
  cases i <;> cases j <;> rfl

theorem bank_bind (b : TariffStore) (i j : BankId) :
    ((b.bind i).bank j).tariff = (b.bank j).tariff ∧
    ((b.bind i).bank j).bound = (b.bank j).bound + if j = i then 1 else 0 := by
  unfold TariffStore.bind
  rw [bank_setBank]
  by_cases h : j = i
  · subst h; simp
  · simp [h]

theorem bank_unbind (b : TariffStore) (i j : BankId) :
    ((b.unbind i).bank j).tariff = (b.bank j).tariff ∧
    ((b.unbind i).bank j).bound = (b.bank j).bound - if j = i then 1 else 0 := by
  unfold TariffStore.unbind
  rw [bank_setBank]
  by_cases h : j = i
  · subst h; simp
  · simp [h]

theorem active_bind (b : TariffStore) (i : BankId) : (b.bind i).active = b.active := by cases i <;> rfl

theorem active_unbind (b : TariffStore) (i : BankId) : (b.unbind i).active = b.active := by cases i <;> rfl

theorem priced_of_tariffs {b b' : TariffStore} {r : SessionRecord} (h : (b'.bank r.bank).tariff = (b.bank r.bank).tariff)
    (priced : Priced b r) : Priced b' r := by
  unfold Priced
  rwa [h]

theorem boundAt_some {s : State} {x : Outlet} {r : SessionRecord} (h : (s.outlet x).sc.session = some r) (i : BankId) :
    boundAt s i x = if i = r.bank then 1 else 0 := by
  unfold boundAt
  rw [h]
  cases hb : r.bank <;> cases i <;> simp [hb]

theorem boundAt_none {s : State} {x : Outlet} (h : (s.outlet x).sc.session = none) (i : BankId) : boundAt s i x = 0 := by
  unfold boundAt
  rw [h]
  rfl

/-! ## What a session may become -/

/-- The record stays bound to its bank, and its figures lawful and priced. -/
def Continues (b : TariffStore) (r r' : SessionRecord) : Prop := r'.bank = r.bank ∧ (Priced b r → Priced b r')

section
variable {s t : State} {x : Outlet}

/-- Work that rewrites the session of one outlet, if it has one, and settles nothing. -/
theorem Bill.rewrite (f : SessionRecord → SessionRecord) (hts : t.ts = s.ts) (hsq : t.sq = s.sq)
    (other : ∀ y, y ≠ x → t.outlet y = s.outlet y) (session : (t.outlet x).sc.session = (s.outlet x).sc.session.map f)
    (continues : ∀ r, (s.outlet x).sc.session = some r → Continues s.ts r (f r))
    (unused : Unused (t.outlet x).sc → (s.outlet x).sc.session = none) (bill : Bill s) : Bill t := by
  have atOther : ∀ y, y ≠ x → openAt t y = openAt s y := fun y hy => by unfold openAt; rw [other y hy]
  have boundOther : ∀ i y, y ≠ x → boundAt t i y = boundAt s i y := fun i y hy => by unfold boundAt; rw [other y hy]
  have atX : openAt t x = openAt s x := by
    unfold openAt; rw [session]; cases (s.outlet x).sc.session <;> rfl
  have boundX : ∀ i, boundAt t i x = boundAt s i x := fun i => by
    cases h : (s.outlet x).sc.session with
    | none => rw [boundAt_none h, boundAt_none (by rw [session, h]; rfl)]
    | some r => rw [boundAt_some h, boundAt_some (r := f r) (by rw [session, h]; rfl), (continues r h).1]
  constructor
  · rw [hsq, bill.reserved]
    have := perOutlet_change x atOther
    omega
  · rw [hsq]; exact bill.places
  · intro i
    rw [hts, bill.bound i]
    have := perOutlet_change x (boundOther i)
    have := boundX i
    omega
  · rw [hts]; exact bill.active
  · rw [hts]; exact bill.starts
  · intro y r hr
    rw [hts]
    by_cases hy : y = x
    · subst hy
      rw [session] at hr
      obtain ⟨r', hr', rfl⟩ := Option.map_eq_some_iff.1 hr
      exact (continues r' hr').2 (bill.priced y r' hr')
    · rw [other y hy] at hr; exact bill.priced y r hr
  · intro y hy
    by_cases h : y = x
    · subst h
      rw [session, unused hy]; rfl
    · rw [other y h] at hy ⊢; exact bill.unused y hy
  · rw [hsq]; exact bill.queued

/-- Work that leaves the sessions, and whose outlet is not left unused with one. -/
theorem Bill.keep (hts : t.ts = s.ts) (hsq : t.sq = s.sq) (other : ∀ y, y ≠ x → t.outlet y = s.outlet y)
    (session : (t.outlet x).sc.session = (s.outlet x).sc.session)
    (unused : Unused (t.outlet x).sc → (s.outlet x).sc.session = none) (bill : Bill s) : Bill t :=
  bill.rewrite id hts hsq other (by rw [session, Option.map_id]; rfl) (fun _ _ => ⟨rfl, id⟩) unused

/-- Settling takes the session's place and its bank with it, and its record to the queue. -/
theorem Bill.settleRecord (bill : Bill s) : Bill (s.settleRecord x) := by
  have gone : ((s.settleRecord x).outlet x).sc.session = none := by rw [settleRecord_sc]; rfl
  have other := s.settleRecord_other x
  cases h : (s.outlet x).sc.session with
  | none =>
    have work : (s.settleRecord x).ts = s.ts ∧ (s.settleRecord x).sq = s.sq := by
      unfold State.settleRecord; rw [h]; simp
    exact bill.keep work.1 work.2 other (by rw [gone, h]) fun _ => h
  | some r =>
    have hts : (s.settleRecord x).ts = s.ts.unbind r.bank := by unfold State.settleRecord; rw [h]
    have hsq : (s.settleRecord x).sq = { queue := s.sq.queue ++ [s.settlementOf r], reserved := s.sq.reserved - 1 } := by
      unfold State.settleRecord; rw [h]; exact s.sq.append_complete (s := s) r
    have count : perOutlet (openAt (s.settleRecord x)) + 1 = perOutlet (openAt s) := by
      have := perOutlet_change (g := openAt s) (g' := openAt (s.settleRecord x)) x
        fun y hy => by unfold openAt; rw [other y hy]
      have here : openAt s x = 1 := by unfold openAt; rw [h]; rfl
      have there : openAt (s.settleRecord x) x = 0 := by unfold openAt; rw [gone]; rfl
      omega
    have places := bill.places
    have reserved := bill.reserved
    constructor
    · rw [hsq]; dsimp only; omega
    · rw [hsq, List.length_append, List.length_singleton]; dsimp only; omega
    · intro i
      rw [hts, (bank_unbind _ _ _).2, bill.bound i]
      have := perOutlet_change (g := boundAt s i) (g' := boundAt (s.settleRecord x) i) x
        fun y hy => by unfold boundAt; rw [other y hy]
      rw [boundAt_some h, boundAt_none gone] at this
      omega
    · rw [hts, active_unbind]
      intro i hi
      rw [(bank_unbind _ _ _).1]
      exact bill.active i hi
    · intro i t ht
      rw [hts, (bank_unbind _ _ _).1] at ht
      exact bill.starts i t ht
    · intro y r' hr'
      have hy : y ≠ x := by rintro rfl; rw [gone] at hr'; cases hr'
      rw [other y hy] at hr'
      rw [hts]
      exact priced_of_tariffs (bank_unbind _ _ _).1 (bill.priced y r' hr')
    · intro y hy
      by_cases hx : y = x
      · rw [hx]; exact gone
      · rw [other y hx] at hy ⊢; exact bill.unused y hy
    · rw [hsq]
      intro e he
      obtain he | he := List.mem_append.1 he
      · exact bill.queued e he
      · rw [List.mem_singleton.1 he]
        exact ⟨(bill.priced x r h).1, rfl⟩

/-! ## The operations of one outlet -/

theorem Bill.modSp (f : StageOutlet → StageOutlet) (bill : Bill s) : Bill (s.modSp x f) :=
  bill.keep (x := x) (by simp) (by simp) (fun y => s.modSp_other x y f) (by simp) fun h => bill.unused x (by simpa using h)

theorem Bill.modMu (f : MeterOutlet → MeterOutlet) (bill : Bill s) : Bill (s.modMu x f) :=
  bill.keep (x := x) (by simp) (by simp) (fun y => s.modMu_other x y f) (by simp) fun h => bill.unused x (by simpa using h)

/-- What SC changes in its record beside the session, the outlet state and the open check. -/
theorem Bill.modSc (f : SessionOutlet → SessionOutlet)
    (hf : ∀ c, (f c).session = c.session ∧ (f c).state = c.state ∧ (f c).openCheck = c.openCheck) (bill : Bill s) :
    Bill (s.modSc x f) := by
  refine bill.keep (x := x) (by simp) (by simp) (fun y => s.modSc_other x y f) (by simp [hf]) fun h => bill.unused x ?_
  obtain ⟨-, hstate, hcheck⟩ := hf (s.outlet x).sc
  simpa [Unused, hstate, hcheck] using h

theorem Bill.modSession (f : SessionRecord → SessionRecord)
    (hf : ∀ r, (s.outlet x).sc.session = some r → Continues s.ts r (f r)) (bill : Bill s) : Bill (s.modSession x f) := by
  refine bill.rewrite (x := x) f (by simp) (by simp) (fun y => s.modSession_other x y f) (by simp) hf fun h => bill.unused x ?_
  simpa [Unused] using h

theorem Bill.modFlags (f : SessionFlags → SessionFlags) (bill : Bill s) : Bill (s.modFlags x f) :=
  bill.modSession _ fun _ _ => ⟨rfl, id⟩

theorem Bill.endWith (reason : Nat) (bill : Bill s) : Bill (s.endWith x reason) := bill.modSession _ fun _ _ => ⟨rfl, id⟩

theorem Bill.order (v : Nat) (bill : Bill s) : Bill (s.order x v) :=
  bill.keep (x := x) (by simp) (by simp) (fun y => s.order_other x y v) (by simp) fun h => bill.unused x (by simpa using h)

/-- Work outside the outlets, the banks and the queue. -/
theorem Bill.same (hts : t.ts = s.ts) (hsq : t.sq = s.sq) (outlets : ∀ y, t.outlet y = s.outlet y) (bill : Bill s) : Bill t :=
  bill.keep (x := .a) hts hsq (fun y _ => outlets y) (by rw [outlets]) fun h => bill.unused .a (outlets .a ▸ h)

theorem Bill.raise (c : Cause) (bill : Bill s) : Bill (s.raise c) :=
  Bill.same (s := s) rfl rfl (fun y => s.raise_outlet y c) bill

/-- The outlet state changes; VACANT and OUT_OF_SERVICE are entered without a session. -/
theorem Bill.enter (st : OutletState) (bill : Bill s)
    (h : Unused { (s.outlet x).sc with state := st } → (s.outlet x).sc.session = none) : Bill (s.enter x st) :=
  bill.keep (x := x) (by simp) (by simp) (fun y => s.enter_other x y st) (by simp) fun g => h (by simpa using g)

theorem Bill.enterInUse {st : OutletState} (bill : Bill s) (h : st ≠ .vacant ∧ st ≠ .outOfService) : Bill (s.enter x st) :=
  bill.enter st fun unused => by
    obtain e | ⟨e, -⟩ := unused
    · exact absurd e h.1
    · exact absurd e h.2

theorem Bill.settleAndEnter (st : OutletState) (bill : Bill s) : Bill ((s.settleRecord x).enter x st) :=
  bill.settleRecord.enter st fun _ => by rw [settleRecord_sc]; rfl

theorem Bill.settle (bill : Bill s) : Bill (s.settle x) := bill.settleAndEnter _

theorem Bill.endAndSettle (reason : Nat) (bill : Bill s) : Bill (s.endAndSettle x reason) := (bill.endWith reason).settle

theorem Bill.leaveClosing (bill : Bill s) : Bill (s.leaveClosing x) := by
  unfold State.leaveClosing
  split
  · exact bill.settle
  · split
    · exact (bill.enterInUse (by simp)).modSc _ fun _ => ⟨rfl, rfl, rfl⟩
    · exact bill.settle

theorem Bill.contactorOpened (bill : Bill s) : Bill (s.contactorOpened x) := by
  unfold State.contactorOpened
  split
  case h_1 =>
    split
    · exact bill.leaveClosing
    · exact bill
  case h_2 hstate =>
    split
    · exact bill.settle
    · next hcheck =>
      split
      · exact bill
      · exact bill.enter _ fun _ => bill.unused x (.inr ⟨hstate, Bool.eq_false_iff.2 hcheck⟩)
  all_goals exact bill

theorem Bill.commandOpen (bill : Bill s) : Bill (s.commandOpen x) := by
  have ordered := bill.order (x := x) 0
  unfold State.commandOpen
  dsimp only
  generalize s.order x 0 = u at ordered
  split
  · split
    · exact ordered.modSp _
    · exact (ordered.modSp _).contactorOpened
  · split
    · exact ordered.modSp _
    · exact (ordered.modSp _).contactorOpened
  · exact ordered.modSp _
  · exact (ordered.modSp _).contactorOpened
  · exact ordered

theorem Bill.commandClose (bill : Bill s) : Bill (s.commandClose x) := by
  unfold State.commandClose
  split
  · exact bill.modSp _
  · exact bill.modSp _
  all_goals exact bill

theorem Bill.openStep (bill : Bill s) : Bill (s.openStep x) :=
  (bill.modSc (fun c => { c with step := .openStep }) fun _ => ⟨rfl, rfl, rfl⟩).commandOpen

theorem Bill.endRampDown (bill : Bill s) : Bill (s.endRampDown x) := by
  unfold State.endRampDown
  split
  · exact bill.openStep
  · exact bill

theorem Bill.openConfirmed (bill : Bill s) : Bill (s.openConfirmed x) := by
  have opened := (bill.modSp (x := x) fun o => { o.confirmOpen with pendingClose := false }).contactorOpened (x := x)
  unfold State.openConfirmed
  dsimp only
  generalize (s.modSp x fun o => { o.confirmOpen with pendingClose := false }).contactorOpened x = u at opened
  have ended : Bill (if (s.outlet x).sp.isConfirmed = false ∧ (s.outlet x).sp.ordered = 0 then u.endRampDown x else u) := by
    split
    · exact opened.endRampDown
    · exact opened
  by_cases h : (s.outlet x).sp.pendingClose = true
  · rw [if_pos h]; exact ended.commandClose
  · rw [if_neg h]; exact ended

theorem Bill.ordinaryStop (reason : Nat) (bill : Bill s) : Bill (s.ordinaryStop x reason) := by
  have stopped := ((((bill.endWith (x := x) reason).modSc (x := x) (fun c => { c with step := .rampDown })
    fun _ => ⟨rfl, rfl, rfl⟩).enterInUse (x := x) (st := .closing) (by simp)).order (x := x) 0).modSp (x := x)
    fun o => { o with pendingClose := false }
  unfold State.ordinaryStop
  dsimp only
  split
  · exact stopped.openStep
  · exact stopped

theorem Bill.quickStop (reason : Nat) (bill : Bill s) : Bill (s.quickStop x reason) :=
  (((bill.endWith reason).enterInUse (by simp)).order 0).openStep

theorem Bill.connect (bill : Bill s) : Bill (s.connect x) := by
  unfold State.connect
  split
  · exact bill.ordinaryStop _
  · exact (bill.enterInUse (by simp)).commandClose

theorem Bill.weld (bill : Bill s) : Bill (s.weld x) := by
  have welded := bill.modSp (x := x)
    fun o => { o with contactor := .welded, driveClosed := false, contactorTimer := false, pendingClose := false }
  unfold State.weld State.weldSuspect
  dsimp only
  generalize s.modSp x _ = u at welded
  refine Bill.settleAndEnter _ (Bill.modFlags _ ?_)
  split
  case h_3 => exact (welded.endWith _).order 0
  all_goals first | exact welded.endWith _ | exact welded

/-! ## Energy and idle minutes (R142, R144) -/

theorem addToLine_band_mem {band wh price : Nat} {ls : List BandLine} {l : BandLine} (h : l ∈ addToLine band wh price ls) :
    l.band = band ∨ ∃ l' ∈ ls, l'.band = l.band := by
  induction ls with
  | nil => exact .inl (by rw [List.mem_singleton.1 h])
  | cons a rest ih =>
    unfold addToLine at h
    split at h
    · obtain rfl | h := List.mem_cons.1 h
      · exact .inl rfl
      · exact .inr ⟨l, h, rfl⟩
    · split at h
      · next same =>
        obtain rfl | h := List.mem_cons.1 h
        · exact .inl same.symm
        · exact .inr ⟨l, List.mem_cons_of_mem _ h, rfl⟩
      · obtain rfl | h := List.mem_cons.1 h
        · exact .inr ⟨l, List.mem_cons_self, rfl⟩
        · exact (ih h).imp_right fun ⟨l', mem, same⟩ => ⟨l', List.mem_cons_of_mem _ mem, same⟩

/-- R142: the lines stay in ascending band index. -/
theorem addToLine_ascending {band wh price : Nat} {ls : List BandLine} (h : ls.Pairwise fun a b => a.band < b.band) :
    (addToLine band wh price ls).Pairwise fun a b => a.band < b.band := by
  induction ls with
  | nil => exact List.pairwise_singleton _ _
  | cons a rest ih =>
    obtain ⟨above, later⟩ := List.pairwise_cons.1 h
    unfold addToLine
    split
    · next lt =>
      refine List.pairwise_cons.2 ⟨fun l hl => ?_, h⟩
      obtain rfl | hl := List.mem_cons.1 hl
      · exact lt
      · exact lt.trans (above l hl)
    · next nlt =>
      split
      · exact List.pairwise_cons.2 ⟨above, later⟩
      · next ne =>
        refine List.pairwise_cons.2 ⟨fun l hl => ?_, ih later⟩
        obtain same | ⟨l', mem, same⟩ := addToLine_band_mem hl
        · omega
        · rw [← same]; exact above l' mem

/-- A line of the lines with a delivery has a property that the lines have and that a delivery at the price gives. -/
theorem addToLine_forall {p : BandLine → Prop} {band wh price : Nat} {ls : List BandLine} (old : ∀ l ∈ ls, p l)
    (new : p { band := band, wh := wh, cost := wh * price, price := price })
    (raised : ∀ l ∈ ls, l.band = band → p { l with wh := l.wh + wh, cost := l.cost + wh * price }) :
    ∀ l ∈ addToLine band wh price ls, p l := by
  induction ls with
  | nil => intro l hl; rw [List.mem_singleton.1 hl]; exact new
  | cons a rest ih =>
    have tail := ih (fun l hl => old l (List.mem_cons_of_mem _ hl)) fun l hl => raised l (List.mem_cons_of_mem _ hl)
    intro l hl
    unfold addToLine at hl
    split at hl
    · obtain rfl | hl := List.mem_cons.1 hl
      · exact new
      · exact old l hl
    · split at hl
      · next same =>
        obtain rfl | hl := List.mem_cons.1 hl
        · exact raised a List.mem_cons_self same.symm
        · exact old l (List.mem_cons_of_mem _ hl)
      · obtain rfl | hl := List.mem_cons.1 hl
        · exact old l List.mem_cons_self
        · exact tail l hl

/-- A delivery of the band in force keeps the record lawful and priced, up to the energy limit. -/
theorem addEnergy_continues {b : TariffStore} {r : SessionRecord} {wh minute : Nat} (hwh : r.billedWh + wh ≤ 2000000)
    (starts : ∀ i t, (b.bank i).tariff = some t → t.StartsAtZero) :
    Continues b r (r.addEnergy (((b.bank r.bank).tariff.map fun t => t.bandAt minute).getD (0, 0)).1 wh
      (((b.bank r.bank).tariff.map fun t => t.bandAt minute).getD (0, 0)).2) := by
  refine ⟨rfl, fun ⟨⟨hasc, hcost, hsum, _⟩, t, ht, hid, hfee, hprices, hidle⟩ => ?_⟩
  obtain ⟨c, hc, hprice, -⟩ := bandAt_spec minute (starts r.bank t ht)
  rw [ht, Option.map_some, Option.getD_some]
  have inBand : (t.bands[(t.bandAt minute).1]?).map Band.price = some (t.bandAt minute).2 := by rw [hc, Option.map_some, hprice]
  have samePrice : ∀ l ∈ r.lines, l.band = (t.bandAt minute).1 → l.price = (t.bandAt minute).2 := fun l hl hb => by
    have := hprices l hl
    rw [hb, inBand] at this
    exact (Option.some.inj this).symm
  refine ⟨⟨addToLine_ascending hasc, ?_, ?_, hwh⟩, t, ht, hid, hfee, ?_, hidle⟩
  · refine addToLine_forall hcost rfl fun l hl hb => ?_
    dsimp only
    rw [hcost l hl, samePrice l hl hb, Nat.add_mul]
  · exact (congrArg (· + wh) hsum).trans (addToLine_wh _ _ _ _).symm
  · exact addToLine_forall hprices inBand fun l hl _ => hprices l hl

theorem Bill.testCaps (bill : Bill s) : Bill (s.testCaps x) := by
  unfold State.testCaps
  split
  · split
    · exact bill.ordinaryStop _
    · exact bill
  · exact bill

theorem Bill.deliver (wh minute : Nat) (bill : Bill s) : Bill (s.deliver x wh minute) := by
  unfold State.deliver
  split
  · exact bill
  · next r hr =>
    have limit : r.billedWh ≤ 2000000 := (bill.priced x r hr).1.2.2.2
    dsimp only
    split
    · exact bill.testCaps
    · have added := bill.modSession (x := x) (fun q => q.addEnergy
          (((s.ts.bank r.bank).tariff.map fun t => t.bandAt minute).getD (0, 0)).1 (min wh (Config.energyLimit - r.billedWh))
          (((s.ts.bank r.bank).tariff.map fun t => t.bandAt minute).getD (0, 0)).2) fun q hq => by
        rw [hr] at hq
        cases hq
        exact addEnergy_continues (by simp only [Config.energyLimit]; omega) bill.starts
      split
      · exact added.ordinaryStop _
      · exact added.testCaps

theorem idleMinute_cases (r : SessionRecord) (grace price maximum : Nat) :
    ∃ n flags, r.idleMinute grace price maximum = { r with idleMinutes := n, flags := flags } ∨
      (r.billedIdle < maximum ∧ r.idleMinute grace price maximum =
        { r with idleMinutes := n, flags := flags, billedIdle := r.billedIdle + 1, idleFee := r.idleFee + price }) := by
  unfold SessionRecord.idleMinute
  dsimp only
  split
  · exact ⟨_, _, .inl rfl⟩
  · split
    · exact ⟨_, _, .inl rfl⟩
    · next below =>
      split
      · exact ⟨_, _, .inl rfl⟩
      · split
        · exact ⟨_, _, .inl rfl⟩
        · exact ⟨_, _, .inr ⟨Nat.not_le.1 below, rfl⟩⟩

/-- R144: an idle minute bills the idle price of the bank, up to its maximum. -/
theorem idleMinute_continues {b : TariffStore} {r : SessionRecord} {t : Tariff} (ht : (b.bank r.bank).tariff = some t) :
    Continues b r (r.idleMinute t.idleGrace t.idlePrice t.idleMax) := by
  obtain ⟨n, flags, same | ⟨below, billed⟩⟩ := idleMinute_cases r t.idleGrace t.idlePrice t.idleMax
  · rw [same]; exact ⟨rfl, id⟩
  · rw [billed]
    refine ⟨rfl, fun ⟨hlaw, t', ht', hid, hfee, hprices, hidle, _⟩ => ?_⟩
    rw [ht] at ht'
    cases ht'
    refine ⟨hlaw, t, ht, hid, hfee, hprices, ?_, below⟩
    dsimp only
    rw [hidle, Nat.add_mul, Nat.one_mul]

/-! ## The events of one outlet -/

theorem Bill.handCarry (wh : Nat) (bill : Bill s) : Bill (s.handCarry x wh) := by
  unfold State.handCarry
  split
  · exact bill
  · split
    · exact bill.deliver _ _
    · exact bill.modMu _

theorem Bill.testOverdraw (p inForce : Nat) (counting : Bool) (bill : Bill s) : Bill (s.testOverdraw x p inForce counting) := by
  unfold State.testOverdraw
  dsimp only
  split
  · split
    · exact bill.modMu _
    · exact (bill.modMu _).ordinaryStop _
  · exact bill.modMu _

theorem Bill.meterSample (v i : Nat) (saturated : Bool) (bill : Bill s) : Bill (s.meterSample x v i saturated) := by
  have sums := bill.modMu (x := x) fun m => { m with powerSum := m.powerSum + v * i, sampleCount := m.sampleCount + 1 }
  unfold State.meterSample
  dsimp only
  refine Bill.testOverdraw _ _ _ ?_
  split
  · refine Bill.handCarry _ (Bill.modMu _ ?_)
    split
    · exact sums.modFlags _
    · exact sums
  · exact sums

theorem Bill.countPulse (weight : Nat) (bill : Bill s) : Bill (s.countPulse x weight) := by
  have counted := bill.modMu (x := x) fun m => { m with windowPulse := m.windowPulse + weight }
  unfold State.countPulse
  dsimp only
  split
  · unfold State.closeCrossCheck
    dsimp only
    split
    · exact counted.modMu _
    · split
      · exact counted.modMu _
      · exact ((counted.modMu _).modFlags _).raise _
  · exact counted

theorem Bill.contactorClosed (bill : Bill s) : Bill (s.contactorClosed x) := by
  unfold State.contactorClosed
  split
  · exact bill.enterInUse (by simp)
  · exact bill

theorem Bill.contactorDrop (bill : Bill s) : Bill (s.contactorDrop x) := by
  unfold State.contactorDrop
  split
  · exact bill.ordinaryStop _
  · exact bill.endRampDown

theorem Bill.contactorFault (bill : Bill s) : Bill (s.contactorFault x) := by
  unfold State.contactorFault
  split
  · exact bill.quickStop _
  · exact bill.endRampDown

/-- Every event of an outlet keeps the law. -/
theorem Bill.event {c : Instr} (hc : c.outletEvent = some x) (h : exec c s = .next t) (bill : Bill s) : Bill t := by
  cases c <;> cases hc
  case sample =>
    simp only [exec, execSample] at h
    split at h <;> cases h
    · exact bill.meterSample _ _ _
    · exact bill
  case settled =>
    simp only [exec, execSettled] at h
    split at h <;> cases h
    · exact (bill.modSp _).endRampDown
    · exact bill
  case orderTimerExpiry =>
    simp only [exec, execOrderTimerExpiry] at h
    split at h
    · split at h <;> cases h
      · exact (bill.modSp _).quickStop _
      · exact (bill.modSp _).endRampDown
    · cases h; exact bill
  case feedbackClosed =>
    simp only [exec, execFeedbackClosed] at h
    split at h
    · split at h <;> cases h
      · exact ((bill.modSp _).modSp _).contactorClosed
      · exact (bill.modSp _).weld
      all_goals exact bill.modSp _
    · cases h; exact bill
  case feedbackOpen =>
    simp only [exec, execFeedbackOpen] at h
    split at h
    · split at h <;> cases h
      · exact (bill.modSp _).openConfirmed
      · exact ((bill.modSp _).order 0).openConfirmed.contactorDrop
      all_goals exact bill.modSp _
    · cases h; exact bill
  case contactorTimerExpiry =>
    simp only [exec, execContactorTimerExpiry] at h
    split at h
    · split at h <;> cases h
      · exact bill.openConfirmed.contactorFault
      · exact bill.weld
      all_goals exact bill
    · cases h; exact bill
  case plugInserted =>
    simp only [exec, execPlugInserted] at h
    split at h
    · split at h
      · have taken := (bill.modSp (x := x) fun o => { o with plugPresent := true }).modSc (x := x)
          (fun c => { c with awaitTimer := false }) fun _ => ⟨rfl, rfl, rfl⟩
        split at h <;> cases h
        · exact (taken.enterInUse (by simp)).modFlags _
        · exact taken.connect
      · cases h; exact bill.modSp _
    · cases h; exact bill
  case plugRemoved =>
    simp only [exec, execPlugRemoved] at h
    have recorded := bill.modSp (x := x) fun o => { o with plugPresent := false }
    split at h
    · split at h <;> cases h
      · exact recorded.quickStop _
      · exact recorded.quickStop _
      · exact recorded.quickStop _
      · exact recorded.endRampDown
      · exact recorded.settle
      all_goals exact recorded
    · cases h; exact bill
  case meterPulse =>
    simp only [exec, execMeterPulse] at h
    have asserted := bill.modMu (x := x) fun m => { m with pulseAsserted := true }
    split at h
    · split at h
      · cases h; exact asserted
      · split at h
        · split at h <;> cases h
          · exact (asserted.deliver _ _).countPulse _
          · exact asserted.deliver _ _
        · cases h; exact asserted
    · cases h; exact bill
  case stageLost =>
    simp only [exec, execStageLost] at h
    split at h
    · split at h <;> cases h
      · exact (bill.modMu _).quickStop _
      · exact bill.modMu _
    · cases h; exact bill
  case noVehicle =>
    simp only [exec, execNoVehicle] at h
    split at h <;> cases h
    · exact bill.endAndSettle _
    · exact bill
  case idleMinute =>
    simp only [exec, execIdleMinute] at h
    split at h
    · split at h
      · cases h; exact bill
      · next r hr =>
        split at h <;> cases h
        · exact bill
        · next tariff ht =>
          refine bill.modSession _ fun q hq => ?_
          rw [hr] at hq
          cases hq
          exact idleMinute_continues ht
    · cases h; exact bill
  case pulseInputReleased =>
    simp only [exec, execPulseInputReleased] at h
    split at h <;> cases h
    · exact bill.modMu _
    · exact bill

/-! ## Halts, the emergency stop and the restart -/

theorem Bill.suspend (bill : Bill s) : Bill (s.suspend x) := by
  have suspended : Bill (((s.enter x .suspended).modFlags x fun f => { f with halted := true }).commandOpen x) :=
    ((bill.enterInUse (by simp)).modFlags _).commandOpen
  unfold State.suspend
  split
  · exact suspended
  · exact suspended
  all_goals exact bill

theorem Bill.resume (bill : Bill s) : Bill (s.resume x) := by
  unfold State.resume
  split
  · exact bill.connect
  · exact bill

theorem Bill.clashOutlet (bill : Bill s) : Bill (s.clashOutlet x) := by
  unfold State.clashOutlet
  split
  · exact bill.quickStop _
  · exact bill.quickStop _
  · exact bill.quickStop _
  · exact (bill.endWith _).endRampDown
  · exact bill.endAndSettle _
  · exact bill.endAndSettle _
  · exact bill
  · exact bill

theorem Bill.giveCeiling (c : Nat) (bill : Bill s) : Bill (s.giveCeiling x c) := by
  unfold State.giveCeiling
  dsimp only
  split
  · exact (bill.order c).modFlags _
  · exact bill.order c

theorem Bill.stopStage (bill : Bill s) : Bill (s.stopStage x) := by
  unfold State.stopStage
  split
  · exact (bill.order 0).modSp _
  · exact bill

theorem Bill.stopOpening (bill : Bill s) : Bill (s.stopOpening x) := by
  unfold State.stopOpening
  split
  · exact bill.endAndSettle _
  · refine (bill.endWith (x := x) EndReason.emergencyStop).keep (x := x) (by simp) (by simp)
      (fun y hy => by rw [State.modSc_other _ _ _ _ hy, State.enter_other _ _ _ _ hy]) (by simp) fun unused => ?_
    rw [State.modSc_same, enter_sc] at unused
    obtain e | ⟨-, e⟩ := unused <;> cases e

theorem Bill.stopOutlet (bill : Bill s) : Bill (s.stopOutlet x) := by
  unfold State.stopOutlet
  split
  case h_1 hstate => exact bill.enter _ fun _ => bill.unused x (.inl hstate)
  case h_2 => exact bill.endAndSettle _
  case h_3 => exact bill.endAndSettle _
  case h_8 =>
    split
    · exact bill.endWith _
    · exact bill
  all_goals exact bill.stopOpening

theorem Bill.releaseOutlet (bill : Bill s) : Bill (s.releaseOutlet x) := by
  unfold State.releaseOutlet
  split
  · have unwelded := bill.modSp (x := x) StageOutlet.unweld
    dsimp only
    split
    · next h => exact unwelded.enter _ fun _ => unwelded.unused x (.inr h.2)
    · exact unwelded
  · exact bill

theorem Bill.restartStage (bill : Bill s) : Bill (s.restartStage x) := by
  unfold State.restartStage
  split
  · exact (bill.order 0).modSp _
  · exact bill

theorem Bill.restartOutlet (bill : Bill s) : Bill (s.restartOutlet x) := by
  unfold State.restartOutlet
  split
  · refine Bill.modMu _ ?_
    have settled := (bill.endWith (x := x) EndReason.restart).settleRecord (x := x)
    refine settled.keep (x := x) (by simp) (by simp) (fun y hy => State.modSc_other _ _ _ _ hy) (by simp) fun _ => ?_
    rw [settleRecord_sc]; rfl
  · exact bill

/-! ## Openings, tariffs and releases -/

/-- An accepted OPEN_SESSION takes a place, and a bank that is LOADED and then bound once more (R128, R155, R168). -/
theorem Bill.book {bank : BankId} {tariff : Tariff} {st : OutletState} (data : List Byte) (hvacant : (s.outlet x).sc.state = .vacant)
    (htariff : (s.ts.bank bank).tariff = some tariff) (room : s.sq.queue.length + s.sq.reserved < 16)
    (hst : st ≠ .vacant ∧ st ≠ .outOfService) (bill : Bill s) :
    Bill ((s.bookSession x (s.newRecord x data bank tariff)).enter x st) := by
  have closed : (s.outlet x).sc.session = none := bill.unused x (.inl hvacant)
  generalize hr : s.newRecord x data bank tariff = r
  have hbank : r.bank = bank := by rw [← hr]; rfl
  generalize hu : (s.bookSession x r).enter x st = u
  have hts : u.ts = s.ts.bind bank := by rw [← hu, enter_ts, ← hbank]; simp [State.bookSession]
  have hsq : u.sq = { s.sq with reserved := s.sq.reserved + 1 } := by rw [← hu, enter_sq]; simp [State.bookSession]
  have opened : (u.outlet x).sc.session = some r ∧ (u.outlet x).sc.state = st := by
    rw [← hu, enter_sc]; simp [State.bookSession]
  have other : ∀ y, y ≠ x → u.outlet y = s.outlet y := fun y hy => by
    rw [← hu, State.enter_other _ _ _ _ hy, State.bookSession, State.modMu_other _ _ _ _ hy, State.modSc_other _ _ _ _ hy]
    cases y <;> rfl
  have priced : Priced (s.ts.bind bank) r := by
    refine priced_of_tariffs (bank_bind _ _ _).1 ?_
    rw [← hr]
    exact ⟨⟨.nil, by simp [State.newRecord], rfl, Nat.zero_le _⟩, tariff, htariff, rfl, rfl, by simp [State.newRecord],
      (Nat.zero_mul _).symm, Nat.zero_le _⟩
  constructor
  · have := perOutlet_change (g := openAt s) (g' := openAt u) x fun y hy => by unfold openAt; rw [other y hy]
    have before : openAt s x = 0 := by unfold openAt; rw [closed]; rfl
    have after : openAt u x = 1 := by unfold openAt; rw [opened.1]; rfl
    have reserved := bill.reserved
    rw [hsq]
    dsimp only
    omega
  · rw [hsq]; dsimp only; omega
  · intro i
    have := perOutlet_change (g := boundAt s i) (g' := boundAt u i) x fun y hy => by unfold boundAt; rw [other y hy]
    rw [boundAt_some opened.1, boundAt_none closed, hbank] at this
    rw [hts, (bank_bind _ _ _).2, bill.bound i]
    omega
  · rw [hts, active_bind]
    intro i hi
    rw [(bank_bind _ _ _).1]
    exact bill.active i hi
  · intro i t ht
    rw [hts, (bank_bind _ _ _).1] at ht
    exact bill.starts i t ht
  · intro y r' hr'
    rw [hts]
    by_cases hy : y = x
    · subst hy
      rw [opened.1] at hr'
      cases hr'
      exact priced
    · rw [other y hy] at hr'
      exact priced_of_tariffs (bank_bind _ _ _).1 (bill.priced y r' hr')
  · intro y hy
    by_cases h : y = x
    · subst h
      unfold Unused at hy
      rw [opened.2] at hy
      obtain e | ⟨e, -⟩ := hy
      · exact absurd e hst.1
      · exact absurd e hst.2
    · rw [other y h] at hy ⊢; exact bill.unused y hy
  · rw [hsq]; exact bill.queued

/-- Entering a state commutes with what SC changes in its record beside the state. -/
theorem enter_modSc_comm (f : SessionOutlet → SessionOutlet) (st : OutletState)
    (hf : ∀ c : SessionOutlet, (f c).state = c.state ∧ f { c with state := st } = { f c with state := st }) :
    (s.modSc x f).enter x st = (s.enter x st).modSc x f := by
  unfold State.enter
  by_cases h : (s.outlet x).sc.state = st
  · rw [if_pos h, if_pos (by rw [State.modSc_same, (hf _).1]; exact h)]
  · rw [if_neg h, if_neg (by rw [State.modSc_same, (hf _).1]; exact h)]
    cases x
    · simp only [State.modSc, State.modMu, State.raise, State.setOutlet, State.outlet, (hf _).2]
    · simp only [State.modSc, State.modMu, State.raise, State.setOutlet, State.outlet, (hf _).2]

theorem Bill.opened (h : Opened s t) (bill : Bill s) : Bill t := by
  obtain ⟨x, data, bank, tariff, -, hvacant, -, htariff, room, rfl⟩ := h
  have booked := fun {st} hst => bill.book (st := st) data hvacant htariff room hst
  generalize s.bookSession x (s.newRecord x data bank tariff) = u at booked
  unfold State.placeSession
  split
  · exact (booked (by simp)).modSc _ fun _ => ⟨rfl, rfl, rfl⟩
  · split
    · exact (booked (by simp)).modFlags _
    · unfold State.connect
      split
      · next reason _ =>
        have ended : Bill (((u.endWith x reason).modSc x fun c => { c with step := .rampDown }).enter x .closing) := by
          unfold State.endWith State.modSession
          rw [enter_modSc_comm _ _ (by intro; exact ⟨rfl, rfl⟩), enter_modSc_comm _ _ (by intro; exact ⟨rfl, rfl⟩)]
          exact ((booked (by simp)).endWith reason).modSc _ fun _ => ⟨rfl, rfl, rfl⟩
        have stopped := (ended.order (x := x) 0).modSp (x := x) fun o => { o with pendingClose := false }
        unfold State.ordinaryStop
        dsimp only
        split
        · exact stopped.openStep
        · exact stopped
      · exact (booked (by simp)).commandClose

/-- R153: a target bank is bound by no session. -/
theorem target_unbound {b : TariffStore} {i : BankId} (h : b.target = some i) : (b.bank i).bound = 0 := by
  unfold TariffStore.target at h
  dsimp only at h
  split at h
  · next zero => cases h; exact zero
  · split at h
    · next zero => cases h; exact zero
    · cases h

theorem bank_load (b : TariffStore) (i j : BankId) (t : Tariff) :
    ((b.load i t).bank j).tariff = (if j = i then some t else (b.bank j).tariff) ∧ ((b.load i t).bank j).bound = (b.bank j).bound := by
  cases i <;> cases j <;> exact ⟨rfl, rfl⟩

theorem Bill.load (data : List Byte) (bill : Bill s) : Bill (loadTariffCommand data s).state := by
  unfold loadTariffCommand
  split
  · exact bill
  · next haccepted =>
    split
    · exact bill
    · next i hi =>
      have free := target_unbound hi
      have zero : (readTariff data).StartsAtZero := by
        have accepted := Bool.eq_true_of_not_eq_false haccepted
        simp only [tariffAccepted, Bool.and_eq_true] at accepted
        obtain ⟨⟨⟨-, hfirst⟩, -⟩, -⟩ := accepted
        unfold Tariff.StartsAtZero
        cases hb : (readTariff data).bands.head? with
        | none => rw [hb] at hfirst; cases hfirst
        | some b => rw [hb] at hfirst; simpa using hfirst
      refine ⟨bill.reserved, bill.places, fun j => ((bank_load s.ts i j _).2).trans (bill.bound j), fun j hj => ?_, fun j t ht => ?_,
        fun x r hr => ?_, bill.unused, bill.queued⟩
      · cases hj
        show Option.isSome ((s.ts.load i (readTariff data)).bank i).tariff = true
        rw [(bank_load _ _ _ _).1, if_pos rfl]; rfl
      · replace ht : ((s.ts.load i (readTariff data)).bank j).tariff = some t := ht
        rw [(bank_load _ _ _ _).1] at ht
        split at ht
        · cases ht; exact zero
        · exact bill.starts j t ht
      · replace hr : (s.outlet x).sc.session = some r := by cases x <;> exact hr
        have ne : r.bank ≠ i := by
          rintro rfl
          have one : boundAt s r.bank x = 1 := by rw [boundAt_some hr, if_pos rfl]
          have bound := bill.bound r.bank
          unfold perOutlet at bound
          cases x <;> omega
        exact priced_of_tariffs (b := s.ts) ((bank_load s.ts i r.bank _).1.trans (if_neg ne)) (bill.priced x r hr)

theorem Bill.demand (data : List Byte) (bill : Bill s) : Bill (demandCommand data s).state := by
  unfold demandCommand
  split
  · exact bill
  · split
    · exact bill
    · split
      · exact bill
      · split
        · exact bill.modSc (fun c => { c with requested := min (field data 1 2) (s.rating _) }) fun _ => ⟨rfl, rfl, rfl⟩
        · exact bill

theorem Bill.stopSessionAt (reason : Nat) (bill : Bill s) : Bill (s.stopSessionAt x reason).state := by
  unfold State.stopSessionAt
  split
  · exact bill.endAndSettle _
  · exact bill.ordinaryStop _
  · exact bill.ordinaryStop _
  · exact bill.ordinaryStop _
  all_goals exact bill

theorem Bill.released {e : SettlementRecord} {rest : List SettlementRecord} (h : s.sq.queue = e :: rest) (bill : Bill s) :
    Bill { s with sq := { s.sq with queue := rest } } := by
  obtain ⟨hres, hplaces, hbound, hactive, hstarts, hpriced, hunused, hqueued⟩ := bill
  rw [h] at hplaces hqueued
  have same : ∀ y, ({ s with sq := { s.sq with queue := rest } } : State).outlet y = s.outlet y := fun y => by cases y <;> rfl
  refine ⟨hres, ?_, hbound, hactive, hstarts, fun y r hr => hpriced y r (same y ▸ hr), fun y hy => ?_,
    fun e he => hqueued e (List.mem_cons_of_mem _ he)⟩
  · rw [List.length_cons] at hplaces; dsimp only; omega
  · rw [same] at hy ⊢; exact hunused y hy

end

/-! ## Every command -/

theorem bill_hardReset {pins : StrapPins} {levels : InputLevels} {s t : State} (h : exec (.hardReset pins levels) s = .next t) : Bill t := by
  injection h with h
  have both : ∀ {u : State}, u.outA.sc.session = none → u.outB.sc.session = none → ∀ x, (u.outlet x).sc.session = none :=
    fun hA hB x => by cases x; exact hA; exact hB
  have closed := both (u := t) (by rw [← h]; rfl) (by rw [← h]; dsimp only; split <;> rfl)
  have open0 : ∀ x, openAt t x = 0 := fun x => by unfold openAt; rw [closed]; rfl
  have empty : t.sq = { queue := [], reserved := 0 } := by rw [← h]
  have banks : t.ts = { bank0 := { tariff := none, bound := 0 }, bank1 := { tariff := none, bound := 0 }, active := none } := by rw [← h]
  refine ⟨?_, ?_, fun i => ?_, fun i hi => ?_, fun i t' ht' => ?_, fun x r hr => ?_, fun x _ => closed x, ?_⟩
  · rw [empty]; unfold perOutlet; rw [open0, open0]
  · rw [empty]; exact Nat.zero_le _
  · unfold perOutlet; rw [boundAt_none (closed .a), boundAt_none (closed .b), banks]; cases i <;> rfl
  · rw [banks] at hi; cases hi
  · rw [banks] at ht'; cases i <;> cases ht'
  · rw [closed] at hr; cases hr
  · rw [empty]; simp

theorem bill_keptByOperations : KeptByOperations Bill where
  same := by
    rintro s t ⟨hA, hB, -, -, hts, hsq⟩ bill
    exact bill.same hts hsq (outlet_congr hA hB)
  reset := bill_hardReset
  orderZero _ _ := .order 0
  suspend _ _ := .suspend
  resume _ _ := .resume
  clash _ _ := .clashOutlet
  ceiling _ _ c _ := .giveCeiling c
  draw _ _ := .modMu _
  stop s bill := by
    have asserted : Bill { s with estop := true } := Bill.same (s := s) rfl rfl (outlet_congr rfl rfl) bill
    exact asserted.stopStage.stopStage.stopOutlet.stopOutlet
  release s _ bill := by
    have released : Bill { s with estop := false } := Bill.same (s := s) rfl rfl (outlet_congr rfl rfl) bill
    exact released.releaseOutlet.releaseOutlet
  restart _ bill := bill.restartStage.restartStage.restartOutlet.restartOutlet
  event hc h := .event hc h
  stepClock _ _ := .modFlags _
  load _ data := .load data
  opened h := .opened h
  demand _ data := .demand data
  stopSession _ _ reason _ := .stopSessionAt reason
  released h := .released h

/-- Settles O55: every operation keeps the law, so every command does. -/
theorem stepKeepsBillLaw : Obligations.StepKeepsBillLaw := fun s t law h =>
  (billLaw_iff t).2 (bill_keptByOperations.step h ((billLaw_iff s).1 law))

end Sys2Proof.Proofs.BillLaw
end

section
/-! How an outlet comes to its end, exactly: the open that SC commands (R97, R99), the settling (R146), the way out of CLOSING (R138, R139),
and the ordinary and the quick stop made of them. -/

namespace Sys2Proof.Proofs.Stopping

open Machine OutletOperations

section
variable (s : State) (x : Outlet)

/-! ## Records changed twice -/

theorem modSp_modSp (f g : StageOutlet → StageOutlet) : (s.modSp x f).modSp x g = s.modSp x fun o => g (f o) := by
  cases x <;> rfl

theorem modSp_const (f : StageOutlet → StageOutlet) : s.modSp x f = s.modSp x fun _ => f (s.outlet x).sp := by
  cases x <;> rfl

theorem modSp_self {f : StageOutlet → StageOutlet} (h : f (s.outlet x).sp = (s.outlet x).sp) : s.modSp x f = s := by
  rw [modSp_const, h]; cases x <;> rfl

theorem order_zero_eq : s.order x 0 = { s with stageTx := s.setpointsAfterZero x }.modSp x fun _ => (s.outlet x).sp.orderedZero := by
  unfold State.order State.setpointsAfterZero StageOutlet.orderedZero
  by_cases h : (s.outlet x).sp.ordered = 0
  · rw [if_pos h.symm, if_pos h, if_pos h]; cases x <;> rfl
  · rw [if_neg (Ne.symm h), if_neg h, if_neg h]; cases x <;> rfl

end

/-! ## Causes stay pending -/

/-- No cause that is pending is cleared. -/
def Raises (s t : State) : Prop := ∀ c, s.isPending c = true → t.isPending c = true

theorem Raises.refl (s : State) : Raises s s := fun _ h => h

theorem Raises.trans {s t u : State} (h : Raises s t) (g : Raises t u) : Raises s u := fun c hc => g c (h c hc)

theorem raises_of_pk {s t : State} (h : t.pk = s.pk) : Raises s t := fun c hc => by
  unfold State.isPending; rwa [h]

section
variable (s : State) (x : Outlet)

theorem raise_raises (c : Cause) : Raises s (s.raise c) := fun d hd => by
  unfold State.isPending at *
  rw [State.raise_link, BitVec.getLsbD_or, hd, Bool.true_or]

theorem raise_pending (c : Cause) : (s.raise c).isPending c = true := by
  unfold State.isPending
  rw [State.raise_link, BitVec.getLsbD_or]
  cases c <;> simp [Cause.index]

theorem modSp_raises (f : StageOutlet → StageOutlet) : Raises s (s.modSp x f) := raises_of_pk (by simp)

theorem modSc_raises (f : SessionOutlet → SessionOutlet) : Raises s (s.modSc x f) := raises_of_pk (by simp)

theorem modFlags_raises (f : SessionFlags → SessionFlags) : Raises s (s.modFlags x f) := raises_of_pk (by simp)

theorem endWith_raises (reason : Nat) : Raises s (s.endWith x reason) := raises_of_pk (by simp)

theorem order_raises (v : Nat) : Raises s (s.order x v) := raises_of_pk (by simp)

theorem enter_raises (st : OutletState) : Raises s (s.enter x st) := by
  unfold State.enter
  split
  · exact .refl s
  · exact (raises_of_pk (by simp)).trans (raise_raises _ _)

theorem settle_raises : Raises s (s.settle x) := (raises_of_pk (by simp)).trans (enter_raises _ x _)

theorem leaveClosing_raises : Raises s (s.leaveClosing x) := by
  unfold State.leaveClosing
  split
  · exact settle_raises s x
  · split
    · exact (enter_raises s x _).trans (modSc_raises _ x _)
    · exact settle_raises s x

theorem contactorOpened_raises : Raises s (s.contactorOpened x) := by
  unfold State.contactorOpened
  split
  case h_1 =>
    split
    · exact leaveClosing_raises s x
    · exact .refl s
  case h_2 =>
    split
    · exact settle_raises s x
    · split
      · exact .refl s
      · exact enter_raises s x _
  all_goals exact .refl s

theorem commandOpen_raises : Raises s (s.commandOpen x) := by
  refine (order_raises s x 0).trans ?_
  unfold State.commandOpen
  dsimp only
  generalize s.order x 0 = t
  have opened : ∀ f, Raises t ((t.modSp x f).contactorOpened x) := fun f => (modSp_raises t x f).trans (contactorOpened_raises _ x)
  split
  · split
    · exact modSp_raises t x _
    · exact opened _
  · split
    · exact modSp_raises t x _
    · exact opened _
  · exact modSp_raises t x _
  · exact opened _
  · exact .refl t

theorem commandClose_raises : Raises s (s.commandClose x) := raises_of_pk (by simp)

theorem openStep_raises : Raises s (s.openStep x) := (modSc_raises s x _).trans (commandOpen_raises _ x)

theorem endRampDown_raises : Raises s (s.endRampDown x) := by
  unfold State.endRampDown
  split
  · exact openStep_raises s x
  · exact .refl s

theorem quickStop_raises (reason : Nat) : Raises s (s.quickStop x reason) :=
  (((endWith_raises s x reason).trans (enter_raises _ x _)).trans (order_raises _ x 0)).trans (openStep_raises _ x)

theorem endAndSettle_raises (reason : Nat) : Raises s (s.endAndSettle x reason) :=
  (endWith_raises s x reason).trans (settle_raises _ x)

theorem suspend_raises : Raises s (s.suspend x) := by
  have suspended : Raises s (((s.enter x .suspended).modFlags x fun f => { f with halted := true }).commandOpen x) :=
    ((enter_raises s x _).trans (modFlags_raises _ x _)).trans (commandOpen_raises _ x)
  unfold State.suspend
  split
  · exact suspended
  · exact suspended
  all_goals exact .refl s

theorem clashOutlet_raises : Raises s (s.clashOutlet x) := by
  unfold State.clashOutlet
  split
  · exact quickStop_raises s x _
  · exact quickStop_raises s x _
  · exact quickStop_raises s x _
  · exact (endWith_raises s x _).trans (endRampDown_raises _ x)
  · exact endAndSettle_raises s x _
  · exact endAndSettle_raises s x _
  · exact .refl s
  · exact .refl s

end

/-! ## The open that SC commands (R97, R99) -/

/-- SP's record once an open is commanded with its order of 0: a contactor that reads closed is waited for, one that reads open is OPEN
with the order of 0 confirmed. -/
def openCommanded (o : StageOutlet) : StageOutlet :=
  if o.feedbackClosed = true then
    { o.orderedZero with contactor := .openWait, driveClosed := false, contactorTimer := true, pendingClose := false }
  else
    { o.orderedZero with
      contactor := .isOpen, driveClosed := false, contactorTimer := false, confirmed := 0, isConfirmed := true
      orderTimer := if o.orderedZero.orderTimer = .expired then .expired else .stopped }

/-- An order of 0 reaches the ceiling record alone. -/
theorem orderedZero_eq (o : StageOutlet) :
    o.orderedZero = { o with ordered := 0, isConfirmed := o.orderedZero.isConfirmed, orderTimer := o.orderedZero.orderTimer } := by
  unfold StageOutlet.orderedZero
  split
  · next h => cases o; cases h; rfl
  · rfl

@[simp] theorem orderedZero_ordered (o : StageOutlet) : o.orderedZero.ordered = 0 := by rw [orderedZero_eq]

theorem orderedZero_lawful {o : StageOutlet} (h : o.Lawful) : o.orderedZero.Lawful := by
  unfold StageOutlet.orderedZero
  split
  · exact h
  · obtain ⟨h1, h2, h3, h4, h5, -, -⟩ := h
    exact ⟨h1, h2, h3, h4, h5, by simp, by simp⟩

/-- R91 and R95 hold of the record of a commanded open. -/
theorem openCommanded_lawful {o : StageOutlet} (h : o.Lawful) : (openCommanded o).Lawful := by
  obtain ⟨h1, h2, h3, h4, h5, h6, h7⟩ := orderedZero_lawful h
  unfold openCommanded
  rw [orderedZero_eq] at *
  split
  · next closed => exact ⟨by simp, by simp, by simp, by simp, fun _ => closed, h6, h7⟩
  · next opened =>
    have noPending : o.pendingClose = false := by
      refine Bool.eq_false_iff.2 fun pending => opened ?_
      exact h5 (.inr (h3 pending))
    refine ⟨by simp, by simp, ?_, fun _ => Bool.eq_false_iff.2 opened, by simp, by simp, ?_⟩
    · simp [noPending]
    · dsimp only; split <;> simp

section
variable {s : State} {x : Outlet}

/-- The state with an open commanded at outlet x, before SC has the contactor opened. -/
def opening (s : State) (x : Outlet) : State :=
  { s with stageTx := s.setpointsAfterZero x }.modSp x fun _ => openCommanded (s.outlet x).sp

/-- R97 at a contactor that obeys R91 and R95: the feedback alone decides whether the open is waited for. -/
theorem commandOpen_eq (law : (s.outlet x).sp.Lawful) (hw : (s.outlet x).sp.contactor ≠ .welded) :
    s.commandOpen x = if (s.outlet x).sp.feedbackClosed = true then opening s x else (opening s x).contactorOpened x := by
  obtain ⟨hdrive, htimer, hpending, hopen, hclosed, -, -⟩ := law
  have step : ∀ f : StageOutlet → StageOutlet, f (s.outlet x).sp.orderedZero = openCommanded (s.outlet x).sp →
      (s.order x 0).modSp x f = opening s x := fun f hf => by
    rw [order_zero_eq, modSp_modSp, opening, hf]
  obtain ⟨hcontactor, -, -, -, hfeedback, -, -⟩ := s.order_contactor x 0
  unfold State.commandOpen
  dsimp only
  rw [hcontactor, hfeedback]
  generalize ho : (s.outlet x).sp = o at *
  have zero : o.orderedZero.ordered = 0 := orderedZero_ordered o
  have waited : o.feedbackClosed = true → o.pendingClose = false ∨ o.contactor = .openWait := fun _ => by
    by_cases h : o.pendingClose = true
    · exact .inr (hpending h)
    · exact .inl (Bool.eq_false_iff.2 h)
  cases hc : o.contactor with
  | welded => exact absurd hc hw
  | isOpen =>
    have opened := hopen (.inl hc)
    dsimp only
    rw [step _ ?_, if_neg (by rw [opened]; decide)]
    rw [openCommanded, if_neg (by rw [opened]; decide), StageOutlet.confirmOpen, zero, if_pos rfl, OrderTimer.onConfirmation_eq]
    simp
  | closeWait =>
    have opened := hopen (.inr hc)
    dsimp only
    rw [if_neg (by rw [opened]; decide), if_neg (by rw [opened]; decide), step]
    show o.orderedZero.release.confirmOpen = openCommanded o
    rw [openCommanded, if_neg (by rw [opened]; decide), StageOutlet.confirmOpen, StageOutlet.release]
    dsimp only
    rw [zero, if_pos rfl, OrderTimer.onConfirmation_eq]
    simp
  | closed =>
    have closed := hclosed (.inl hc)
    have notPending : o.pendingClose = false := by
      refine Bool.eq_false_iff.2 fun h => ?_
      have := hpending h
      rw [hc] at this
      cases this
    dsimp only
    rw [if_pos closed, if_pos closed, step]
    rw [openCommanded, if_pos closed, StageOutlet.release]
    rw [orderedZero_eq] at *
    simp [notPending]
  | openWait =>
    have closed := hclosed (.inr hc)
    have drive : o.driveClosed = false := by
      refine Bool.eq_false_iff.2 fun h => ?_
      obtain h | h := hdrive.1 h <;> rw [hc] at h <;> cases h
    dsimp only
    rw [if_pos closed, step]
    rw [openCommanded, if_pos closed]
    rw [orderedZero_eq]
    simp [hc, drive, htimer.2 (.inr hc)]

@[simp] theorem opening_frame : (opening s x).cf = s.cf ∧ (opening s x).estop = s.estop ∧ (opening s x).ts = s.ts ∧
    (opening s x).sq = s.sq ∧ (opening s x).stageTx = s.setpointsAfterZero x ∧ (opening s x).pv = s.pv ∧ (opening s x).pk = s.pk := by
  simp [opening]

@[simp] theorem opening_outlet : (opening s x).outlet x = { s.outlet x with sp := openCommanded (s.outlet x).sp } := by
  simp [opening]

/-! ## Settling (R146) -/

theorem settlementOf_congr {s t : State} (h : t.cf = s.cf) (r : SessionRecord) : t.settlementOf r = s.settlementOf r := by
  unfold State.settlementOf; rw [h]

/-- Settling and the next state, in every record that the law of a settled session names. -/
theorem settleAndEnter_settledAs {r : SessionRecord} {st : OutletState} (hr : (s.outlet x).sc.session = some r)
    (hst : st ≠ .energising) (h : (s.outlet x).sc.state ≠ st ∨ (s.outlet x).mu.silenceTimer = false) :
    SettledAs s ((s.settleRecord x).enter x st) x r st := by
  refine ⟨?_, ?_, ?_, ?_⟩
  · rw [enter_sq, State.settleRecord, hr]
    exact s.sq.append_complete (s := s) r
  · rw [enter_ts, State.settleRecord, hr]
  · rw [enter_sc, settleRecord_sc]; rfl
  · rw [enter_mu, settleRecord_mu, settleRecord_sc, SessionOutlet.afterSettling]
    dsimp only
    by_cases same : (s.outlet x).sc.state = st
    · have quiet := h.resolve_left (not_not.2 same)
      rw [if_pos same, MeterOutlet.closeWindow, ← quiet]
    · rw [if_neg same, MeterOutlet.closeWindow]
      simp [hst]

/-- A record settled from a state that differs from s in nothing that the settling reads. -/
theorem settledAs_of_eq {s v t : State} {x : Outlet} {r : SessionRecord} {st : OutletState} (hcf : v.cf = s.cf) (hsq : v.sq = s.sq)
    (hts : v.ts = s.ts)
    (hmu : { (v.outlet x).mu with silenceTimer := false } = { (s.outlet x).mu with silenceTimer := false })
    (h : SettledAs v t x r st) : SettledAs s t x r st := by
  obtain ⟨h1, h2, h3, h4⟩ := h
  refine ⟨?_, ?_, h3, ?_⟩
  · rw [h1, hsq, settlementOf_congr hcf]
  · rw [h2, hts]
  · rw [h4]
    simp only [MeterOutlet.mk.injEq] at hmu ⊢
    simp [hmu]

/-! ## The way out of CLOSING (R138, R139) -/

/-- The session stays for its idle minutes. -/
abbrev StaysIdle (s : State) (x : Outlet) (r : SessionRecord) : Prop :=
  (s.outlet x).sp.plugPresent = true ∧ s.idlePriced r = true ∧ r.endReason ≠ some 129 ∧ r.endReason ≠ some 139

/-- What leaving CLOSING at the open step makes of the session controller, the meter unit, the banks and the queue. -/
def Left (s t : State) (x : Outlet) (r : SessionRecord) : Prop :=
  if StaysIdle s x r then
    (t.outlet x).sc = { (s.outlet x).sc with state := .idle, idleTimer := true, step := .openStep } ∧
    (t.outlet x).mu = { (s.outlet x).mu with silenceTimer := false } ∧ t.sq = s.sq ∧ t.ts = s.ts
  else SettledAs s t x r .vacant

theorem idlePriced_iff (s : State) (r : SessionRecord) : s.idlePriced r = true ↔ 0 < (s.ts.bank r.bank).idlePrice := by
  unfold State.idlePriced Bank.idlePrice
  cases (s.ts.bank r.bank).tariff <;> simp

theorem leaveClosing_left {r : SessionRecord} (hr : (s.outlet x).sc.session = some r) (hstate : (s.outlet x).sc.state = .closing)
    (hstep : (s.outlet x).sc.step = .openStep) (hestop : s.estop = false) : Left s (s.leaveClosing x) x r := by
  unfold Left State.leaveClosing
  rw [hr]
  dsimp only
  by_cases h : StaysIdle s x r
  · obtain ⟨plug, priced, notUnplugged, notClash⟩ := h
    rw [if_pos ⟨plug, priced, notUnplugged, notClash⟩, if_pos ⟨plug, (idlePriced_iff s r).1 priced, notUnplugged, notClash⟩]
    refine ⟨?_, ?_, by simp, by simp⟩
    · rw [State.modSc_same, enter_sc, ← hstep]
    · rw [State.modSc_mu, enter_mu, if_neg (by rw [hstate]; decide)]; rfl
  · rw [if_neg h, if_neg fun ⟨plug, price, notUnplugged, notClash⟩ => h ⟨plug, (idlePriced_iff s r).2 price, notUnplugged, notClash⟩,
      State.settle, hestop]
    exact settleAndEnter_settledAs hr (by decide) (.inl (by rw [hstate]; decide))

/-! ## The open step (R138) -/

/-- The laws of one outlet's records together. -/
structure Fits (o : OutletRecord) : Prop where
  stage : o.sp.Lawful
  record : o.Lawful

/-- An outlet with the session r open, whose contactor is not suspected and that waits for no plug, no idle minute and no open check. -/
structure InSession (s : State) (x : Outlet) (r : SessionRecord) : Prop where
  stage : (s.outlet x).sp.Lawful
  sound : (s.outlet x).sp.contactor ≠ .welded
  session : (s.outlet x).sc.session = some r
  openCheck : (s.outlet x).sc.openCheck = false
  awaitTimer : (s.outlet x).sc.awaitTimer = false
  idleTimer : (s.outlet x).sc.idleTimer = false
  window : (s.outlet x).mu.windowOpen = true
  released : s.estop = false

/-- What the open step makes of the outlet: the contactor is waited for, or CLOSING is left. -/
def StepsOpen (s t : State) (x : Outlet) (r : SessionRecord) : Prop :=
  t.stageTx = s.setpointsAfterZero x ∧ (t.outlet x).sp = openCommanded (s.outlet x).sp ∧
  if (s.outlet x).sp.feedbackClosed = true then
    (t.outlet x).sc = { (s.outlet x).sc with step := .openStep } ∧ (t.outlet x).mu = (s.outlet x).mu ∧ t.sq = s.sq ∧ t.ts = s.ts
  else Left s t x r

theorem openStep_stepsOpen {r : SessionRecord} (h : InSession s x r) (hstate : (s.outlet x).sc.state = .closing) :
    StepsOpen s (s.openStep x) x r := by
  generalize hv : (s.modSc x fun c => { c with step := .openStep }) = v
  have sp : (v.outlet x).sp = (s.outlet x).sp := by rw [← hv]; simp
  have sc : (v.outlet x).sc = { (s.outlet x).sc with step := .openStep } := by rw [← hv]; simp
  have mu : (v.outlet x).mu = (s.outlet x).mu := by rw [← hv]; simp
  have frame : v.cf = s.cf ∧ v.estop = s.estop ∧ v.ts = s.ts ∧ v.sq = s.sq ∧ v.stageTx = s.stageTx := by rw [← hv]; simp
  obtain ⟨hcf, hestop, hts, hsq, htx⟩ := frame
  have sent : v.setpointsAfterZero x = s.setpointsAfterZero x := by unfold State.setpointsAfterZero; rw [sp, htx]
  have step : s.openStep x = if (s.outlet x).sp.feedbackClosed = true then opening v x else (opening v x).contactorOpened x := by
    unfold State.openStep
    rw [hv, commandOpen_eq (by rw [sp]; exact h.stage) (by rw [sp]; exact h.sound), sp]
  obtain ⟨fcf, festop, fts, fsq, ftx, -, -⟩ := opening_frame (s := v) (x := x)
  have out := opening_outlet (s := v) (x := x)
  rw [step]
  by_cases hf : (s.outlet x).sp.feedbackClosed = true
  · rw [if_pos hf, StepsOpen, if_pos hf, out, sp, sc, mu]
    exact ⟨ftx.trans sent, rfl, rfl, rfl, fsq.trans hsq, fts.trans hts⟩
  · rw [if_neg hf, StepsOpen, if_neg hf]
    have state : ((opening v x).outlet x).sc.state = .closing := by rw [out, sc]; exact hstate
    have left : Left (opening v x) ((opening v x).contactorOpened x) x r := by
      have := leaveClosing_left (s := opening v x) (x := x) (r := r) (by rw [out, sc]; exact h.session) state (by rw [out, sc])
        (by rw [festop, hestop, h.released])
      rw [State.contactorOpened, state]
      dsimp only
      rwa [if_pos (by rw [out, sc])]
    refine ⟨by rw [(State.contactorOpened_frame _ _).2.2.2.2.2.1, ftx, sent], by rw [State.contactorOpened_sp, out, sp], ?_⟩
    have plug : (openCommanded (s.outlet x).sp).plugPresent = (s.outlet x).sp.plugPresent := by
      unfold openCommanded; rw [if_neg hf, orderedZero_eq]
    have stays : StaysIdle (opening v x) x r ↔ StaysIdle s x r := by
      unfold StaysIdle State.idlePriced
      rw [out, sp, fts, hts, ← plug]
    unfold Left at left ⊢
    by_cases idle : StaysIdle s x r
    · rw [if_pos (stays.2 idle), out, sc, mu, fsq, fts, hsq, hts] at left
      rw [if_pos idle]
      exact left
    · rw [if_neg fun g => idle (stays.1 g)] at left
      rw [if_neg idle]
      exact settledAs_of_eq (fcf.trans hcf) (fsq.trans hsq) (fts.trans hts) (by rw [out, mu]) left

theorem order_modSc_comm (f : SessionOutlet → SessionOutlet) : (s.order x 0).modSc x f = (s.modSc x f).order x 0 := by
  rw [order_zero_eq, order_zero_eq]; cases x <;> rfl

theorem order_order : (s.order x 0).order x 0 = s.order x 0 := (State.order_spec _ x 0).1 (by simp)

/-- An order of 0 given twice is an order of 0 given once. -/
theorem order_openStep : (s.order x 0).openStep x = s.openStep x := by
  unfold State.openStep State.commandOpen
  rw [order_modSc_comm, order_order]

/-- An outlet that the open step has left obeys its laws. -/
theorem fits_of_stepsOpen {t : State} {r : SessionRecord} (h : InSession s x r) (hstate : (s.outlet x).sc.state = .closing)
    (hended : r.endReason.isSome = true) (hquiet : (s.outlet x).mu.silenceTimer = false) (steps : StepsOpen s t x r) :
    Fits (t.outlet x) := by
  obtain ⟨-, hsp, rest⟩ := steps
  refine ⟨by rw [hsp]; exact openCommanded_lawful h.stage, ?_⟩
  by_cases hf : (s.outlet x).sp.feedbackClosed = true
  · rw [if_pos hf] at rest
    obtain ⟨hsc, hmu, -, -⟩ := rest
    have sp : (openCommanded (s.outlet x).sp).contactor = .openWait ∧ (openCommanded (s.outlet x).sp).pendingClose = false := by
      unfold openCommanded; rw [if_pos hf]; exact ⟨rfl, rfl⟩
    simp only [OutletRecord.Lawful, hsp, hsc, hmu, sp, h.session, h.openCheck, h.awaitTimer, h.idleTimer, h.window, hstate, hquiet]
    simp [contactorFits, hended]
  · rw [if_neg hf, Left] at rest
    have sp : (openCommanded (s.outlet x).sp).contactor = .isOpen := by unfold openCommanded; rw [if_neg hf]
    split at rest
    · obtain ⟨hsc, hmu, -, -⟩ := rest
      simp only [OutletRecord.Lawful, hsp, hsc, hmu, sp, h.session, h.openCheck, h.awaitTimer, h.window]
      simp [contactorFits, hended]
    · obtain ⟨-, -, hsc, hmu⟩ := rest
      simp only [OutletRecord.Lawful, hsp, hsc, hmu, sp, SessionOutlet.afterReset]
      simp [contactorFits]

/-! ## The stops -/

/-- The state v is s with the session of outlet x ended by the reason, as r, and the outlet in CLOSING. -/
structure EndedIn (s v : State) (x : Outlet) (r : SessionRecord) : Prop where
  cf : v.cf = s.cf
  estop : v.estop = s.estop
  ts : v.ts = s.ts
  sq : v.sq = s.sq
  sent : v.setpointsAfterZero x = s.setpointsAfterZero x
  sp : openCommanded (v.outlet x).sp = openCommanded (s.outlet x).sp
  feedback : (v.outlet x).sp.feedbackClosed = (s.outlet x).sp.feedbackClosed
  plug : (v.outlet x).sp.plugPresent = (s.outlet x).sp.plugPresent
  mu : (v.outlet x).mu = { (s.outlet x).mu with silenceTimer := false }
  state : (v.outlet x).sc.state = .closing
  session : (v.outlet x).sc.session = some r
  pending : v.isPending (Cause.ofOutlet x) = true

theorem openCommanded_lines (o : StageOutlet) : (openCommanded o).feedbackClosed = o.feedbackClosed ∧
    (openCommanded o).plugPresent = o.plugPresent ∧ (openCommanded o).ordered = 0 ∧ (openCommanded o).driveClosed = false := by
  unfold openCommanded
  split <;> rw [orderedZero_eq] <;> exact ⟨rfl, rfl, rfl, rfl⟩

theorem openCommanded_pendingClose {o : StageOutlet} (h : o.Lawful) : (openCommanded o).pendingClose = false := by
  refine Bool.eq_false_iff.2 fun pending => ?_
  obtain ⟨-, -, waits, -, closed, -, -⟩ := openCommanded_lawful h
  have hf := closed (.inr (waits pending))
  rw [(openCommanded_lines o).1] at hf
  unfold openCommanded at pending
  rw [if_pos hf] at pending
  cases pending

/-- Leaving CLOSING at the open step, with the contactor confirmed open, is what R138 and R139 say. -/
theorem closingLeft_of_left {t : State} {r : SessionRecord} (hr : (s.outlet x).sc.session = some r)
    (hf : (s.outlet x).sp.feedbackClosed ≠ true) (hsp : (t.outlet x).sp = openCommanded (s.outlet x).sp) (left : Left s t x r) :
    ClosingLeft s t x r := by
  have opened : (t.outlet x).sp.contactor = .isOpen ∧ (t.outlet x).sp.confirmed = 0 ∧ (t.outlet x).sp.isConfirmed = true := by
    rw [hsp, openCommanded, if_neg hf]; exact ⟨rfl, rfl, rfl⟩
  refine ⟨opened.1, opened.2.1, opened.2.2, ?_⟩
  unfold Left at left
  split at left
  · next idle =>
    obtain ⟨hsc, hmu, hsq, hts⟩ := left
    rw [if_pos idle, hsc, hmu]
    exact ⟨rfl, rfl, hr, rfl, hsq, hts⟩
  · next busy => rw [if_neg busy]; exact left

theorem closingLeft_congr {v t : State} {r : SessionRecord} (h : EndedIn s v x r) (left : ClosingLeft v t x r) : ClosingLeft s t x r := by
  obtain ⟨h1, h2, h3, rest⟩ := left
  refine ⟨h1, h2, h3, ?_⟩
  have stays : StaysIdle v x r ↔ StaysIdle s x r := by
    unfold StaysIdle State.idlePriced
    rw [h.plug, h.ts]
  split at rest
  · next idle =>
    rw [if_pos (stays.1 idle)]
    obtain ⟨g1, g2, g3, g4, g5, g6⟩ := rest
    exact ⟨g1, g2, g3, by rw [g4, h.mu], g5.trans h.sq, g6.trans h.ts⟩
  · next busy =>
    rw [if_neg fun g => busy (stays.2 g)]
    exact settledAs_of_eq h.cf h.sq h.ts (by rw [h.mu]) rest

/-- A session ended and its open step taken is a quick stop (R139). -/
theorem quickStopped_of_endedIn {v t : State} {r : SessionRecord} {reason : Nat} (hstage : (s.outlet x).sp.Lawful)
    (work : OutletWork x s t) (ended : EndedIn s v x { r with endReason := some reason })
    (steps : StepsOpen v t x { r with endReason := some reason }) (raises : Raises v t) : QuickStopped s t x r reason := by
  obtain ⟨htx, hsp, rest⟩ := steps
  have hsp' := hsp
  rw [ended.sp] at hsp
  obtain ⟨lf, lp, lo, ld⟩ := openCommanded_lines (s.outlet x).sp
  refine ⟨work.onlyOutlet, htx.trans ended.sent, raises _ ended.pending, by rw [hsp, lf], by rw [hsp, lp], by rw [hsp, lo],
    by rw [hsp, ld], by rw [hsp, openCommanded_pendingClose hstage], ?_⟩
  rw [ended.feedback] at rest
  split at rest
  · next hf =>
    obtain ⟨hsc, hmu, hsq, hts⟩ := rest
    have sp : (openCommanded (s.outlet x).sp).contactor = .openWait ∧ (openCommanded (s.outlet x).sp).contactorTimer = true := by
      unfold openCommanded; rw [if_pos hf]; exact ⟨rfl, rfl⟩
    rw [if_pos hf, hsp, hsc, hmu]
    exact ⟨sp.1, sp.2, ended.state, rfl, ended.session, ended.mu, hsq.trans ended.sq, hts.trans ended.ts⟩
  · next hf =>
    rw [if_neg hf]
    exact closingLeft_congr ended (closingLeft_of_left ended.session (by rw [ended.feedback]; exact hf) hsp' rest)

/-- The session ended and CLOSING entered, from a state other than CLOSING. -/
theorem endedIn_closing {r : SessionRecord} (reason : Nat) (f : SessionOutlet → SessionOutlet)
    (hf : ∀ c, (f c).state = c.state ∧ (f c).session = c.session) (hr : (s.outlet x).sc.session = some r)
    (hstate : (s.outlet x).sc.state ≠ .closing) :
    EndedIn s (((s.endWith x reason).modSc x f).enter x .closing) x { r with endReason := some reason } := by
  have sp : (((s.endWith x reason).modSc x f).enter x .closing |>.outlet x).sp = (s.outlet x).sp := by simp
  have moved : ((((s.endWith x reason).modSc x f).outlet x).sc).state ≠ .closing := by
    rw [State.modSc_same]; dsimp only; rw [(hf _).1, endWith_sc]; exact hstate
  refine ⟨by simp, by simp, by simp, by simp, ?_, by rw [sp], by rw [sp], by rw [sp], ?_, by rw [enter_sc], ?_, State.enter_pending _ _ _ moved⟩
  · unfold State.setpointsAfterZero; rw [sp]; simp
  · rw [enter_mu, if_neg moved]; simp
  · rw [enter_sc, State.modSc_same]; dsimp only; rw [(hf _).2, endWith_sc]; simp [hr]

/-- An outlet that has ended its session is in session still. -/
theorem EndedIn.inSession {v : State} {r r' : SessionRecord} (ended : EndedIn s v x r') (h : InSession s x r)
    (hstage : (v.outlet x).sp.Lawful) (hsound : (v.outlet x).sp.contactor ≠ .welded)
    (hsc : (v.outlet x).sc = { (s.outlet x).sc with
      state := (v.outlet x).sc.state, session := (v.outlet x).sc.session, step := (v.outlet x).sc.step }) : InSession v x r' where
  stage := hstage
  sound := hsound
  session := ended.session
  openCheck := by rw [hsc]; exact h.openCheck
  awaitTimer := by rw [hsc]; exact h.awaitTimer
  idleTimer := by rw [hsc]; exact h.idleTimer
  window := by rw [ended.mu]; exact h.window
  released := by rw [ended.estop]; exact h.released

theorem modSc_self (f : SessionOutlet → SessionOutlet) (h : f (s.outlet x).sc = (s.outlet x).sc) : s.modSc x f = s := by
  unfold State.modSc
  rw [h]
  cases x <;> rfl

/-- R139: a quick stop, from any state but CLOSING. -/
theorem quickStop_spec {r : SessionRecord} (reason : Nat) (h : InSession s x r) (hstate : (s.outlet x).sc.state ≠ .closing) :
    QuickStopped s (s.quickStop x reason) x r reason ∧ Fits ((s.quickStop x reason).outlet x) := by
  have ended := endedIn_closing reason id (fun _ => ⟨rfl, rfl⟩) h.session hstate
  rw [modSc_self id rfl] at ended
  have shape : s.quickStop x reason = ((s.endWith x reason).enter x .closing).openStep x := order_openStep
  have sp : (((s.endWith x reason).enter x .closing).outlet x).sp = (s.outlet x).sp := by simp
  have inside := ended.inSession h (by rw [sp]; exact h.stage) (by rw [sp]; exact h.sound) (by simp)
  rw [shape]
  generalize (s.endWith x reason).enter x .closing = v at ended inside shape
  have steps := openStep_stepsOpen inside ended.state
  have work : OutletWork x s (v.openStep x) := shape ▸ quickStop_work s x reason
  exact ⟨quickStopped_of_endedIn h.stage work ended steps (openStep_raises v x),
    fits_of_stepsOpen inside ended.state rfl (by rw [ended.mu]) steps⟩

/-- The stage port's record of a ramp-down: an order of 0, and no close behind an open under way (R138). -/
def rampingDown (o : StageOutlet) : StageOutlet := { o.orderedZero with pendingClose := false }

theorem rampingDown_lawful {o : StageOutlet} (h : o.Lawful) : (rampingDown o).Lawful := by
  obtain ⟨h1, h2, -, h4, h5, h6, h7⟩ := orderedZero_lawful h
  exact ⟨h1, h2, by simp [rampingDown], h4, h5, h6, h7⟩

theorem openCommanded_rampingDown {o : StageOutlet} (h : o.Lawful) : openCommanded (rampingDown o) = openCommanded o := by
  have idem : (rampingDown o).orderedZero = rampingDown o := by
    rw [StageOutlet.orderedZero, if_pos]
    exact orderedZero_ordered o
  have feedback : (rampingDown o).feedbackClosed = o.feedbackClosed := by unfold rampingDown; rw [orderedZero_eq]
  have notPending := openCommanded_pendingClose h
  unfold openCommanded at notPending ⊢
  rw [feedback, idem]
  split
  · rfl
  · next hf =>
    rw [if_neg hf] at notPending
    have same : o.orderedZero = rampingDown o := by
      rw [rampingDown, ← notPending]
    rw [same]

/-- Whether an order of 0 stands settled before an order of 0 is given again. -/
theorem rampingDown_over_iff (o : StageOutlet) : ((rampingDown o).isConfirmed = true ∨ (rampingDown o).orderTimer = .expired) ↔
    o.ordered = 0 ∧ (o.isConfirmed = true ∨ o.orderTimer = .expired) := by
  unfold rampingDown StageOutlet.orderedZero
  split
  · next h => simp [h]
  · next h => simp [h]

/-- R138: an ordinary stop, from any state but CLOSING. -/
theorem ordinaryStop_spec {r : SessionRecord} (reason : Nat) (h : InSession s x r) (hstate : (s.outlet x).sc.state ≠ .closing) :
    OrdinaryStopped s (s.ordinaryStop x reason) x r reason ∧ Fits ((s.ordinaryStop x reason).outlet x) := by
  generalize hw : ((s.endWith x reason).modSc x fun c => { c with step := .rampDown }).enter x .closing = w
  have before : EndedIn s w x { r with endReason := some reason } :=
    hw ▸ endedIn_closing reason _ (fun _ => ⟨rfl, rfl⟩) h.session hstate
  have wsp : (w.outlet x).sp = (s.outlet x).sp := by rw [← hw]; simp
  have wsc : (w.outlet x).sc = { (s.outlet x).sc with
      state := .closing, session := some { r with endReason := some reason }, step := .rampDown } := by
    rw [← hw, enter_sc]; simp [h.session]
  generalize hv : (w.order x 0).modSp x (fun o => { o with pendingClose := false }) = v
  have vsp : (v.outlet x).sp = rampingDown (s.outlet x).sp := by
    rw [← hv, State.modSp_same]; dsimp only; rw [order_zero_sp, wsp]; rfl
  have vsc : (v.outlet x).sc = (w.outlet x).sc := by rw [← hv]; simp
  have vmu : (v.outlet x).mu = (w.outlet x).mu := by rw [← hv]; simp
  have vtx : v.stageTx = s.setpointsAfterZero x := by
    rw [← hv, ← before.sent]; simp [order_zero_stageTx]
  have zero : (rampingDown (s.outlet x).sp).ordered = 0 := orderedZero_ordered _
  have lines : (rampingDown (s.outlet x).sp).feedbackClosed = (s.outlet x).sp.feedbackClosed ∧
      (rampingDown (s.outlet x).sp).plugPresent = (s.outlet x).sp.plugPresent ∧
      (rampingDown (s.outlet x).sp).contactor = (s.outlet x).sp.contactor := by
    unfold rampingDown; rw [orderedZero_eq]; exact ⟨rfl, rfl, rfl⟩
  have ended : EndedIn s v x { r with endReason := some reason } := by
    obtain ⟨hcf, hestop, hts, hsq, -, -, -, -, hmu, hst, hse, hpend⟩ := before
    refine ⟨by rw [← hv]; simp [hcf], by rw [← hv]; simp [hestop], by rw [← hv]; simp [hts], by rw [← hv]; simp [hsq], ?_,
      by rw [vsp]; exact openCommanded_rampingDown h.stage, by rw [vsp]; exact lines.1, by rw [vsp]; exact lines.2.1, by rw [vmu, hmu],
      by rw [vsc, hst], by rw [vsc, hse], ?_⟩
    · unfold State.setpointsAfterZero
      rw [vsp, zero, if_pos rfl, vtx]; rfl
    · rw [← hv]; exact (modSp_raises _ x _) _ (order_raises w x 0 _ hpend)
  have inside : InSession v x { r with endReason := some reason } :=
    ended.inSession h (by rw [vsp]; exact rampingDown_lawful h.stage) (by rw [vsp, lines.2.2]; exact h.sound) (by rw [vsc, wsc])
  have shape : s.ordinaryStop x reason =
      if (v.outlet x).sp.isConfirmed ∨ (v.outlet x).sp.orderTimer = .expired then v.openStep x else v := by
    unfold State.ordinaryStop; rw [hw, hv]
  have work := ordinaryStop_work s x reason
  rw [shape] at work ⊢
  unfold OrdinaryStopped
  rw [vsp] at work ⊢
  by_cases settled : (rampingDown (s.outlet x).sp).isConfirmed = true ∨ (rampingDown (s.outlet x).sp).orderTimer = .expired
  · rw [if_pos settled] at work ⊢
    rw [if_pos ((rampingDown_over_iff _).1 settled)]
    have steps := openStep_stepsOpen inside ended.state
    exact ⟨quickStopped_of_endedIn h.stage work ended steps (openStep_raises v x),
      fits_of_stepsOpen inside ended.state rfl (by rw [ended.mu]) steps⟩
  · rw [if_neg settled] at work ⊢
    rw [if_neg fun g => settled ((rampingDown_over_iff _).2 g)]
    obtain ⟨unconfirmed, notExpired⟩ := not_or.1 settled
    have isConfirmed := Bool.eq_false_iff.2 unconfirmed
    refine ⟨⟨work.onlyOutlet, vtx, ended.pending, ended.sq, ended.ts, ended.feedback, ended.plug, ended.mu, by rw [vsp, zero],
      by rw [vsp, isConfirmed], by rw [vsp]; rfl, by rw [vsp, lines.2.2], ended.state, by rw [vsc, wsc], ended.session⟩, inside.stage, ?_⟩
    obtain ⟨-, -, -, -, -, running, -⟩ := rampingDown_lawful h.stage
    have timer : (rampingDown (s.outlet x).sp).orderTimer = .running := by
      have := running isConfirmed
      cases ht : (rampingDown (s.outlet x).sp).orderTimer with
      | running => rfl
      | stopped => exact absurd ht this
      | expired => exact absurd ht notExpired
    have fits : contactorFits .closing .rampDown (s.outlet x).sp.contactor false = true := by
      have := h.sound
      cases hc : (s.outlet x).sp.contactor <;> first | rfl | exact absurd hc this
    simp only [OutletRecord.Lawful, vsp, vsc, wsc, ended.mu, lines.2.2, zero, timer, h.openCheck, h.awaitTimer, h.idleTimer, h.window]
    simp [fits, rampingDown]

end

/-! ## What the law says in each outlet state -/

theorem Fits.contactor {o : OutletRecord} (h : Fits o) : contactorFits o.sc.state o.sc.step o.sp.contactor o.sp.pendingClose = true := h.2.1

/-- CONNECTING, ENERGISING and SUSPENDED have a session that has not ended. -/
theorem Fits.running {o : OutletRecord} (h : Fits o) (hstate : o.sc.state.running = true) :
    ∃ r, o.sc.session = some r ∧ r.endReason = none := by
  obtain ⟨-, -, -, going, -⟩ := h
  have state : o.sc.state = .awaitPlug ∨ o.sc.state = .connecting ∨ o.sc.state = .energising ∨ o.sc.state = .suspended := by
    cases hs : o.sc.state <;> rw [hs] at hstate <;> simp_all [OutletState.running]
  obtain ⟨r, hr, he⟩ := Option.map_eq_some_iff.1 (going state)
  exact ⟨r, hr, he⟩

theorem Fits.awaitPlug {o : OutletRecord} (h : Fits o) (hstate : o.sc.state = .awaitPlug) :
    ∃ r, o.sc.session = some r ∧ r.endReason = none := by
  obtain ⟨-, -, -, going, -⟩ := h
  obtain ⟨r, hr, he⟩ := Option.map_eq_some_iff.1 (going (.inl hstate))
  exact ⟨r, hr, he⟩

theorem Fits.ended {o : OutletRecord} (h : Fits o) (hstate : o.sc.state = .closing ∨ o.sc.state = .idle) :
    ∃ r, o.sc.session = some r ∧ r.endReason.isSome = true := by
  obtain ⟨-, -, -, -, closed, -⟩ := h
  have := closed hstate
  cases hr : o.sc.session with
  | none => rw [hr] at this; cases this
  | some r => rw [hr] at this; exact ⟨r, rfl, this⟩

theorem Fits.openCheck {o : OutletRecord} (h : Fits o) (hstate : o.sc.state ≠ .outOfService) : o.sc.openCheck = false := by
  obtain ⟨-, -, -, -, -, -, check, -⟩ := h
  exact Bool.eq_false_iff.2 fun g => hstate (check g)

theorem Fits.awaitTimer {o : OutletRecord} (h : Fits o) : o.sc.awaitTimer = true ↔ o.sc.state = .awaitPlug := by
  obtain ⟨-, -, -, -, -, -, -, await, -⟩ := h
  exact await

theorem Fits.idleTimer {o : OutletRecord} (h : Fits o) : o.sc.idleTimer = true ↔ o.sc.state = .idle := by
  obtain ⟨-, -, -, -, -, -, -, -, idle, -⟩ := h
  exact idle

theorem Fits.silenceTimer {o : OutletRecord} (h : Fits o) : o.mu.silenceTimer = true ↔ o.sc.state = .energising := by
  obtain ⟨-, -, -, -, -, -, -, -, -, silence, -⟩ := h
  exact silence

theorem Fits.window {o : OutletRecord} (h : Fits o) : o.mu.windowOpen = o.sc.session.isSome := by
  obtain ⟨-, -, -, -, -, -, -, -, -, -, window, -⟩ := h
  exact window

theorem Fits.rampDown {o : OutletRecord} (h : Fits o) (hstate : o.sc.state = .closing) (hstep : o.sc.step = .rampDown) :
    o.sp.ordered = 0 ∧ o.sp.orderTimer = .running := by
  obtain ⟨-, -, -, -, -, -, -, -, -, -, -, ramp⟩ := h
  exact ramp ⟨hstate, hstep⟩

theorem Fits.vacant {o : OutletRecord} (h : Fits o) (hstate : o.sc.state = .vacant) : o.sc.session = none := by
  obtain ⟨-, -, none, -⟩ := h
  exact none hstate

theorem Fits.outOfService {o : OutletRecord} (h : Fits o) (hstate : o.sc.state = .outOfService) :
    (o.sc.session.bind SessionRecord.endReason).isSome = o.sc.openCheck ∧ o.sc.session.isSome = o.sc.openCheck ∧
    (o.sc.openCheck = true → o.sp.contactor = .openWait) := by
  obtain ⟨-, -, -, -, -, waits, -⟩ := h
  exact waits hstate

/-- A timer that stands by an equivalence is stopped in every other state. -/
theorem stopped_of {b : Bool} {p : Prop} (h : b = true ↔ p) (hp : ¬ p) : b = false := Bool.eq_false_iff.2 fun g => hp (h.1 g)

/-- Only an OUT_OF_SERVICE outlet's contactor is suspected. -/
theorem Fits.notWelded {o : OutletRecord} (h : Fits o) (hstate : o.sc.state ≠ .outOfService) : o.sp.contactor ≠ .welded := fun hw => by
  have fits := h.contactor
  rw [hw] at fits
  cases hs : o.sc.state <;> rw [hs] at fits <;> first | exact hstate hs | exact absurd fits (by simp [contactorFits])

end Sys2Proof.Proofs.Stopping
end

section
/-! The laws of the outlets (R91, R95, R126, R137, R138, R144, R145), and what the operations of one outlet make of an outlet that obeys
them. -/

namespace Sys2Proof.Proofs.OutletLaws

open Machine OutletOperations StationWork Stopping

/-! ## The law outlet by outlet -/

/-- The law of the outlets, outlet by outlet. -/
structure Law (s : State) : Prop where
  fits : ∀ x, Fits (s.outlet x)
  stopped : s.estop = true → ∀ x, (s.outlet x).sc.state = .outOfService
  absent : ∀ x, s.fitted x = false → (s.outlet x).sc.state = .outOfService ∧ (s.outlet x).sc.session = none

theorem outletLaw_iff (s : State) : s.OutletLaw ↔ Law s := by
  constructor
  · rintro ⟨⟨spA, spB⟩, recA, recB, hstopped, habsent⟩
    refine ⟨fun x => ?_, fun h x => ?_, fun x h => ?_⟩
    · cases x
      · exact ⟨spA, recA⟩
      · exact ⟨spB, recB⟩
    · cases x
      · exact (hstopped h).1
      · exact (hstopped h).2
    · cases x
      · cases h
      · exact habsent h
  · rintro ⟨hfits, hstopped, habsent⟩
    exact ⟨⟨(hfits .a).1, (hfits .b).1⟩, (hfits .a).2, (hfits .b).2, fun h => ⟨hstopped h .a, hstopped h .b⟩, fun h => habsent .b h⟩

section
variable {s t : State} {x : Outlet}

/-- An outlet in use is fitted, and the emergency stop is released. -/
theorem Law.inUse (law : Law s) (h : (s.outlet x).sc.state ≠ .outOfService) : s.estop = false ∧ s.fitted x = true :=
  ⟨Bool.eq_false_iff.2 fun g => h (law.stopped g x), Bool.eq_true_of_not_eq_false fun g => h (law.absent x g).1⟩

/-- Work of one outlet keeps the law when that outlet obeys its own, and stays OUT_OF_SERVICE where it must. -/
theorem Law.ofWork (law : Law s) (work : OutletWork x s t) (fits : Fits (t.outlet x))
    (stays : (s.outlet x).sc.state = .outOfService → (s.estop = true ∨ s.fitted x = false) →
      (t.outlet x).sc.state = .outOfService ∧ ((s.outlet x).sc.session = none → (t.outlet x).sc.session = none)) : Law t := by
  have cf : ∀ y, t.fitted y = s.fitted y := fun y => ShareLaw.fitted_of_cf work.cf y
  refine ⟨fun y => ?_, fun h y => ?_, fun y h => ?_⟩
  · by_cases hy : y = x
    · rw [hy]; exact fits
    · rw [work.other y hy]; exact law.fits y
  · rw [work.estop] at h
    by_cases hy : y = x
    · rw [hy]; exact (stays (law.stopped h x) (.inl h)).1
    · rw [work.other y hy]; exact law.stopped h y
  · rw [cf] at h
    by_cases hy : y = x
    · subst hy
      obtain ⟨state, session⟩ := law.absent y h
      obtain ⟨h1, h2⟩ := stays state (.inr h)
      exact ⟨h1, h2 session⟩
    · rw [work.other y hy]; exact law.absent y h

theorem Law.ofWorkInUse (law : Law s) (work : OutletWork x s t) (h : (s.outlet x).sc.state ≠ .outOfService)
    (fits : Fits (t.outlet x)) : Law t := law.ofWork work fits fun g => absurd g h

/-! ## Outlets in session -/

/-- An outlet that stands between its plug and its settling is in session. -/
theorem Law.inSession (law : Law s) {r : SessionRecord} (hr : (s.outlet x).sc.session = some r)
    (hstate : (s.outlet x).sc.state.running = true ∨ (s.outlet x).sc.state = .closing) : InSession s x r := by
  have fits := law.fits x
  have away : (s.outlet x).sc.state ≠ .outOfService ∧ (s.outlet x).sc.state ≠ .awaitPlug ∧ (s.outlet x).sc.state ≠ .idle := by
    cases hs : (s.outlet x).sc.state <;> rw [hs] at hstate <;> simp_all [OutletState.running]
  exact ⟨fits.1, fits.notWelded away.1, hr, fits.openCheck away.1, stopped_of fits.awaitTimer away.2.1,
    stopped_of fits.idleTimer away.2.2, by rw [fits.window, hr]; rfl, (law.inUse away.1).1⟩

theorem not_closing_of_running {o : OutletState} (h : o.running = true) : o ≠ .closing := by rintro rfl; cases h

theorem not_outOfService_of_running {o : OutletState} (h : o.running = true) : o ≠ .outOfService := by rintro rfl; cases h

/-! ## Settling -/

/-- An outlet whose session is settled obeys its laws with any record of the stage port that fits the state it goes to. -/
theorem fits_of_settledAs {r : SessionRecord} {st : OutletState} (h : SettledAs s t x r st) (hsp : (t.outlet x).sp.Lawful)
    (hst : st = .vacant ∧ (t.outlet x).sp.contactor = .isOpen ∨
      st = .outOfService ∧ contactorFits .outOfService .rampDown (t.outlet x).sp.contactor (t.outlet x).sp.pendingClose = true) :
    Fits (t.outlet x) := by
  obtain ⟨-, -, hsc, hmu⟩ := h
  refine ⟨hsp, ?_⟩
  obtain ⟨rfl, hc⟩ | ⟨rfl, hc⟩ := hst
  · simp only [OutletRecord.Lawful, hsc, hmu, hc, SessionOutlet.afterReset]
    simp [contactorFits]
  · simp only [OutletRecord.Lawful, hsc, hmu, SessionOutlet.afterReset]
    simp [hc]

/-- R130 and R139: a session ended and settled at once. -/
theorem endAndSettle_settledAs {r : SessionRecord} (reason : Nat) (hr : (s.outlet x).sc.session = some r) {st : OutletState}
    (hst : (if s.estop = true then OutletState.outOfService else .vacant) = st) (h : (s.outlet x).sc.state ≠ st) :
    SettledAs s (s.endAndSettle x reason) x { r with endReason := some reason } st := by
  have sc : ((s.endWith x reason).outlet x).sc = { (s.outlet x).sc with session := some { r with endReason := some reason } } := by
    rw [endWith_sc, hr]; rfl
  unfold State.endAndSettle State.settle
  have estop : (s.endWith x reason).estop = s.estop := by simp
  rw [estop, hst]
  refine settledAs_of_eq (by simp) (by simp) (by simp) (by simp) (settleAndEnter_settledAs (by rw [sc]) ?_ (.inl (by rw [sc]; exact h)))
  rw [← hst]; split <;> decide

/-! ## The ramp-down's end -/

/-- R138 and R140: in the ramp-down the open step is taken with the order of 0 standing. -/
theorem endRampDown_spec {r : SessionRecord} (h : InSession s x r) (hstate : (s.outlet x).sc.state = .closing)
    (hstep : (s.outlet x).sc.step = .rampDown) : StepsOpen s (s.endRampDown x) x r := by
  have shape : s.endRampDown x = s.openStep x := by
    unfold State.endRampDown State.inRampDown
    rw [if_pos (by simp [hstate, hstep])]
  rw [shape]
  exact openStep_stepsOpen h hstate

theorem endRampDown_elsewhere (h : (s.outlet x).sc.state ≠ .closing ∨ (s.outlet x).sc.step ≠ .rampDown) : s.endRampDown x = s := by
  unfold State.endRampDown State.inRampDown
  rw [if_neg]
  simp only [decide_eq_true_eq]
  rintro ⟨h1, h2⟩
  obtain g | g := h
  · exact g h1
  · exact g h2

/-! ## The halt at one outlet (R134, R135) -/

/-- A contactor opened is nothing to an outlet that waits for no open. -/
theorem contactorOpened_idle (h : (s.outlet x).sc.state ≠ .outOfService)
    (hc : (s.outlet x).sc.state = .closing → (s.outlet x).sc.step = .rampDown) : s.contactorOpened x = s := by
  unfold State.contactorOpened
  cases hs : (s.outlet x).sc.state with
  | closing => dsimp only; rw [if_neg (by rw [hc hs]; decide)]
  | outOfService => exact absurd hs h
  | _ => rfl

/-- What the beginning of a halt makes of an outlet that it suspends. -/
structure Suspended (s t : State) (x : Outlet) : Prop where
  stageTx : t.stageTx = s.setpointsAfterZero x
  sp : (t.outlet x).sp = openCommanded (s.outlet x).sp
  mu : (t.outlet x).mu = { (s.outlet x).mu with silenceTimer := false }
  sc : (t.outlet x).sc = { (s.outlet x).sc with
    state := .suspended
    session := (s.outlet x).sc.session.map fun r => { r with flags := { r.flags with halted := true } } }
  ts : t.ts = s.ts
  sq : t.sq = s.sq
  pending : t.isPending (Cause.ofOutlet x) = true

theorem suspend_spec (hstage : (s.outlet x).sp.Lawful) (hsound : (s.outlet x).sp.contactor ≠ .welded)
    (hstate : (s.outlet x).sc.state = .connecting ∨ (s.outlet x).sc.state = .energising) : Suspended s (s.suspend x) x := by
  generalize hv : (s.enter x .suspended).modFlags x (fun f => { f with halted := true }) = v
  have shape : s.suspend x = v.commandOpen x := by
    rw [← hv]
    unfold State.suspend
    obtain h | h := hstate <;> rw [h]
  have moved : (s.outlet x).sc.state ≠ .suspended := by obtain h | h := hstate <;> rw [h] <;> decide
  have vsp : (v.outlet x).sp = (s.outlet x).sp := by rw [← hv]; simp
  have vsc : (v.outlet x).sc = { (s.outlet x).sc with
      state := .suspended
      session := (s.outlet x).sc.session.map fun r => { r with flags := { r.flags with halted := true } } } := by
    rw [← hv, modFlags_sc, enter_sc]
  have vmu : (v.outlet x).mu = { (s.outlet x).mu with silenceTimer := false } := by
    rw [← hv, State.modFlags_mu, enter_mu, if_neg moved]; rfl
  have frame : v.ts = s.ts ∧ v.sq = s.sq ∧ v.stageTx = s.stageTx := by rw [← hv]; simp
  have pending : v.isPending (Cause.ofOutlet x) = true := by
    rw [← hv]; exact modFlags_raises _ x _ _ (State.enter_pending s x _ moved)
  have sent : v.setpointsAfterZero x = s.setpointsAfterZero x := by unfold State.setpointsAfterZero; rw [vsp, frame.2.2]
  have out := opening_outlet (s := v) (x := x)
  have opened : v.commandOpen x = opening v x := by
    rw [commandOpen_eq (by rw [vsp]; exact hstage) (by rw [vsp]; exact hsound)]
    split
    · rfl
    · refine contactorOpened_idle ?_ fun h => ?_
      · rw [out, vsc]; simp
      · rw [out, vsc] at h; cases h
  obtain ⟨-, -, fts, fsq, ftx, -, fpk⟩ := opening_frame (s := v) (x := x)
  rw [shape, opened]
  exact ⟨ftx.trans sent, by rw [out, vsp], by rw [out, vmu], by rw [out, vsc], fts.trans frame.1, fsq.trans frame.2.1,
    raises_of_pk fpk _ pending⟩

theorem suspend_elsewhere (h : (s.outlet x).sc.state ≠ .connecting) (g : (s.outlet x).sc.state ≠ .energising) : s.suspend x = s := by
  unfold State.suspend
  cases hs : (s.outlet x).sc.state with
  | connecting => exact absurd hs h
  | energising => exact absurd hs g
  | _ => rfl

/-- A commanded open leaves the contactor OPEN, or waited for without a close behind it. -/
theorem openCommanded_contactor (o : StageOutlet) : ((openCommanded o).contactor = .isOpen ∧ o.feedbackClosed ≠ true) ∨
    ((openCommanded o).contactor = .openWait ∧ (openCommanded o).pendingClose = false ∧ o.feedbackClosed = true) := by
  unfold openCommanded
  by_cases h : o.feedbackClosed = true
  · rw [if_pos h]; exact .inr ⟨rfl, rfl, h⟩
  · rw [if_neg h]; exact .inl ⟨rfl, h⟩

theorem fits_of_suspended (law : Law s) (hstate : (s.outlet x).sc.state = .connecting ∨ (s.outlet x).sc.state = .energising)
    (h : Suspended s t x) : Fits (t.outlet x) := by
  have running : (s.outlet x).sc.state.running = true := by obtain h | h := hstate <;> rw [h] <;> rfl
  obtain ⟨r, hr, hend⟩ := (law.fits x).running running
  have inside := law.inSession hr (.inl running)
  refine ⟨by rw [h.sp]; exact openCommanded_lawful inside.stage, ?_⟩
  have fits : contactorFits .suspended (s.outlet x).sc.step (openCommanded (s.outlet x).sp).contactor
      (openCommanded (s.outlet x).sp).pendingClose = true := by
    obtain ⟨hc, -⟩ | ⟨hc, hp, -⟩ := openCommanded_contactor (s.outlet x).sp
    · rw [hc]; rfl
    · rw [hc, hp]; rfl
  simp only [OutletRecord.Lawful, h.sp, h.sc, h.mu, hr, inside.openCheck, inside.awaitTimer, inside.idleTimer, inside.window]
  simp [fits, hend]

/-! ## Entry to CONNECTING (R131) -/

/-- What an entry to CONNECTING makes of an outlet whose session reaches no cap. -/
structure Connected (s t : State) (x : Outlet) : Prop where
  stageTx : t.stageTx = s.stageTx
  sp : (t.outlet x).sp = if (s.outlet x).sp.contactor = .isOpen then
      { (s.outlet x).sp with contactor := .closeWait, driveClosed := true, contactorTimer := true }
    else { (s.outlet x).sp with pendingClose := true }
  mu : (t.outlet x).mu = { (s.outlet x).mu with silenceTimer := false }
  sc : (t.outlet x).sc = { (s.outlet x).sc with state := .connecting }
  ts : t.ts = s.ts
  sq : t.sq = s.sq
  pending : t.isPending (Cause.ofOutlet x) = true

theorem connect_spec {r : SessionRecord} (hr : (s.outlet x).sc.session = some r) (hcap : r.capReached = none)
    (hstate : (s.outlet x).sc.state ≠ .connecting)
    (hcontactor : (s.outlet x).sp.contactor = .isOpen ∨ (s.outlet x).sp.contactor = .openWait) : Connected s (s.connect x) x := by
  have shape : s.connect x = (s.enter x .connecting).commandClose x := by
    unfold State.connect; rw [hr, Option.bind_some, hcap]
  rw [shape]
  obtain ⟨fromOpen, fromWait, -⟩ := (s.enter x .connecting).commandClose_spec x
  rw [State.enter_sp] at fromOpen fromWait
  refine ⟨by simp, ?_, ?_, by simp, by simp, by simp, ?_⟩
  · obtain hc | hc := hcontactor
    · rw [if_pos hc, fromOpen hc]
    · rw [if_neg (by rw [hc]; decide), fromWait hc]
  · rw [State.commandClose_mu, enter_mu, if_neg hstate]; rfl
  · exact commandClose_raises _ x _ (State.enter_pending s x _ hstate)

theorem connect_capped {r : SessionRecord} {reason : Nat} (hr : (s.outlet x).sc.session = some r) (hcap : r.capReached = some reason) :
    s.connect x = s.ordinaryStop x reason := by
  unfold State.connect; rw [hr, Option.bind_some, hcap]

/-- An outlet in session whose close has been commanded from OPEN, or behind an open under way. -/
theorem fits_of_connected {r : SessionRecord} (h : InSession s x r) (hend : r.endReason = none)
    (hcontactor : (s.outlet x).sp.contactor = .isOpen ∨ (s.outlet x).sp.contactor = .openWait) (c : Connected s t x) :
    Fits (t.outlet x) := by
  obtain ⟨h1, h2, h3, h4, h5, h6, h7⟩ := h.stage
  have sp : (t.outlet x).sp.Lawful ∧ contactorFits .connecting (s.outlet x).sc.step (t.outlet x).sp.contactor (t.outlet x).sp.pendingClose = true := by
    rw [c.sp]
    obtain hc | hc := hcontactor
    · rw [if_pos hc]
      have noPending : (s.outlet x).sp.pendingClose = false := Bool.eq_false_iff.2 fun g => by
        have := h3 g; rw [hc] at this; cases this
      exact ⟨⟨by simp, by simp, by simp [noPending], fun _ => h4 (.inl hc), by simp, h6, h7⟩, rfl⟩
    · rw [if_neg (by rw [hc]; decide)]
      refine ⟨⟨h1, h2, fun _ => hc, h4, h5, h6, h7⟩, ?_⟩
      dsimp only
      rw [hc]; rfl
  refine ⟨sp.1, ?_⟩
  simp only [OutletRecord.Lawful, c.sc, c.mu, h.session, h.openCheck, h.awaitTimer, h.idleTimer, h.window]
  simp [sp.2, hend]

/-- R131: an outlet in session, not CONNECTING or CLOSING already, obeys its laws after its entry to CONNECTING. -/
theorem fits_of_connect {r : SessionRecord} (h : InSession s x r) (hend : r.endReason = none)
    (hstate : (s.outlet x).sc.state ≠ .connecting) (hclosing : (s.outlet x).sc.state ≠ .closing)
    (hcontactor : (s.outlet x).sp.contactor = .isOpen ∨ (s.outlet x).sp.contactor = .openWait) : Fits ((s.connect x).outlet x) := by
  cases hcap : r.capReached with
  | none => exact fits_of_connected h hend hcontactor (connect_spec h.session hcap hstate hcontactor)
  | some reason =>
    rw [connect_capped h.session hcap]
    exact (ordinaryStop_spec reason h hclosing).2

/-! ## A contactor suspected of having welded (R99, R100, R141) -/

/-- The record of a session that a weld suspicion ends, unless it had ended. -/
def weldedRecord (st : OutletState) (r : SessionRecord) : SessionRecord :=
  { r with
    endReason := if st = .awaitPlug ∨ st.running = true then some 136 else r.endReason
    flags := { r.flags with weldSuspect := true } }

/-- The stage port's record of a contactor suspected of having welded. -/
def suspected (o : StageOutlet) : StageOutlet :=
  { o with contactor := .welded, driveClosed := false, contactorTimer := false, pendingClose := false }

/-- What a weld suspicion makes of an outlet that is not ENERGISING. -/
structure Welded (s t : State) (x : Outlet) : Prop where
  stageTx : t.stageTx = s.stageTx
  sp : (t.outlet x).sp = suspected (s.outlet x).sp
  sc : (t.outlet x).sc = SessionOutlet.afterReset .outOfService
  mu : (t.outlet x).mu = { (s.outlet x).mu.closeWindow with silenceTimer := false }
  settled : ∀ r, (s.outlet x).sc.session = some r → SettledAs s t x (weldedRecord (s.outlet x).sc.state r) .outOfService

theorem modSession_modSession (f g : SessionRecord → SessionRecord) :
    (s.modSession x f).modSession x g = s.modSession x fun r => g (f r) := by
  cases x <;> simp [State.modSession, State.modSc, State.setOutlet, State.outlet, Function.comp_def]

theorem weldSuspect_eq (hstate : (s.outlet x).sc.state ≠ .energising) : s.weldSuspect x =
    ((s.modSession x (weldedRecord (s.outlet x).sc.state)).settleRecord x).enter x .outOfService := by
  unfold State.weldSuspect
  dsimp only
  congr 2
  cases hs : (s.outlet x).sc.state with
  | energising => exact absurd hs hstate
  | awaitPlug => exact modSession_modSession _ _
  | connecting => exact modSession_modSession _ _
  | suspended => exact modSession_modSession _ _
  | _ => rfl

theorem weld_spec (hstate : (s.outlet x).sc.state ≠ .energising)
    (hquiet : (s.outlet x).mu.silenceTimer = false) : Welded s (s.weld x) x := by
  generalize hw : (s.modSp x suspected).modSession x (weldedRecord (s.outlet x).sc.state) = w
  have shape : s.weld x = (w.settleRecord x).enter x .outOfService := by
    rw [← hw]
    unfold State.weld
    exact (weldSuspect_eq (by rw [State.modSp_sc]; exact hstate)).trans (by rw [State.modSp_sc]; rfl)
  have wsp : (w.outlet x).sp = suspected (s.outlet x).sp := by rw [← hw]; simp
  have wmu : (w.outlet x).mu = (s.outlet x).mu := by rw [← hw]; simp
  have wsc : (w.outlet x).sc.session = (s.outlet x).sc.session.map (weldedRecord (s.outlet x).sc.state) := by rw [← hw]; simp
  have frame : w.cf = s.cf ∧ w.sq = s.sq ∧ w.ts = s.ts ∧ w.stageTx = s.stageTx := by rw [← hw]; simp
  rw [shape]
  refine ⟨by simp [frame], by simp [wsp], ?_, ?_, fun r hr => ?_⟩
  · rw [enter_sc, settleRecord_sc]; rfl
  · rw [enter_mu, settleRecord_mu, wmu]
    split
    · rw [MeterOutlet.closeWindow, ← hquiet]
    · rfl
  · refine settledAs_of_eq frame.1 frame.2.1 frame.2.2.1 (by rw [wmu])
      (settleAndEnter_settledAs (by rw [wsc, hr]; rfl) (by decide) (.inr (by rw [wmu]; exact hquiet)))

/-- The order timer follows the confirmation (R91). -/
def TimerFits (o : StageOutlet) : Prop := (o.isConfirmed = false → o.orderTimer ≠ .stopped) ∧ (o.isConfirmed = true → o.orderTimer ≠ .running)

theorem timerFits {o : StageOutlet} (h : o.Lawful) : TimerFits o := by
  obtain ⟨-, -, -, -, -, h6, h7⟩ := h
  exact ⟨h6, h7⟩

theorem fits_of_welded (htimer : TimerFits (s.outlet x).sp) (h : Welded s t x) : Fits (t.outlet x) := by
  obtain ⟨h6, h7⟩ := htimer
  refine ⟨by rw [h.sp]; exact ⟨by simp [suspected], by simp [suspected], by simp [suspected], by simp [suspected], by simp [suspected], h6, h7⟩, ?_⟩
  simp only [OutletRecord.Lawful, h.sp, h.sc, h.mu, SessionOutlet.afterReset, suspected, MeterOutlet.closeWindow]
  simp [contactorFits]

/-! ## An open confirmed outside a command (R99) -/

/-- SP's record once an open is confirmed outside a command. -/
def confirmedOpen (o : StageOutlet) : StageOutlet := { o.confirmOpen with pendingClose := false }

theorem confirmedOpen_lawful {o : StageOutlet} (h : TimerFits o) (hf : o.feedbackClosed = false) : (confirmedOpen o).Lawful := by
  obtain ⟨h6, h7⟩ := h
  refine ⟨by simp [confirmedOpen, StageOutlet.confirmOpen], by simp [confirmedOpen, StageOutlet.confirmOpen],
    by simp [confirmedOpen, StageOutlet.confirmOpen], fun _ => hf, by simp [confirmedOpen, StageOutlet.confirmOpen], ?_, ?_⟩
  · simp only [confirmedOpen, StageOutlet.confirmOpen]
    by_cases h0 : o.ordered = 0 <;> simp [h0]
    exact h6
  · simp only [confirmedOpen, StageOutlet.confirmOpen, OrderTimer.onConfirmation_eq]
    by_cases h0 : o.ordered = 0 <;> simp [h0]
    · split <;> simp
    · exact h7

/-- The two steps that follow the contactor opened, with their conditions read before it. -/
theorem openConfirmed_eq (o : StageOutlet) (ho : (s.outlet x).sp = o) : s.openConfirmed x =
    (let u := (s.modSp x confirmedOpen).contactorOpened x
     let v := if o.isConfirmed = false ∧ o.ordered = 0 then u.endRampDown x else u
     if o.pendingClose then v.commandClose x else v) := by
  subst ho; rfl

/-- Where nothing waits for the open, the confirmation reaches the stage port alone. -/
theorem openConfirmed_waiting (hstate : (s.outlet x).sc.state ≠ .outOfService) (hclosing : (s.outlet x).sc.state ≠ .closing) :
    s.openConfirmed x = if (s.outlet x).sp.pendingClose then (s.modSp x confirmedOpen).commandClose x else s.modSp x confirmedOpen := by
  rw [openConfirmed_eq _ rfl]
  have opened : (s.modSp x confirmedOpen).contactorOpened x = s.modSp x confirmedOpen :=
    contactorOpened_idle (by rw [State.modSp_sc]; exact hstate) fun h => absurd (by rwa [State.modSp_sc] at h) hclosing
  have stays : (s.modSp x confirmedOpen).endRampDown x = s.modSp x confirmedOpen :=
    endRampDown_elsewhere (.inl (by rw [State.modSp_sc]; exact hclosing))
  dsimp only
  rw [opened, stays, ite_self]

/-- At the open step of CLOSING the confirmation leads out of CLOSING. -/
theorem openConfirmed_openStep (hstate : (s.outlet x).sc.state = .closing) (hstep : (s.outlet x).sc.step = .openStep)
    (hpending : (s.outlet x).sp.pendingClose = false) {r : SessionRecord} (hr : (s.outlet x).sc.session = some r)
    (hestop : s.estop = false) :
    Left (s.modSp x confirmedOpen) (s.openConfirmed x) x r ∧ s.openConfirmed x = (s.modSp x confirmedOpen).leaveClosing x := by
  have left : Left (s.modSp x confirmedOpen) ((s.modSp x confirmedOpen).leaveClosing x) x r :=
    leaveClosing_left (by rw [State.modSp_sc]; exact hr) (by rw [State.modSp_sc]; exact hstate) (by rw [State.modSp_sc]; exact hstep)
      (by simp [hestop])
  have opened : (s.modSp x confirmedOpen).contactorOpened x = (s.modSp x confirmedOpen).leaveClosing x := by
    unfold State.contactorOpened
    rw [State.modSp_sc, hstate]
    dsimp only
    rw [if_pos hstep]
  have stays : ((s.modSp x confirmedOpen).leaveClosing x).endRampDown x = (s.modSp x confirmedOpen).leaveClosing x := by
    refine endRampDown_elsewhere (.inl ?_)
    unfold Left at left
    split at left
    · rw [left.1]; simp
    · obtain ⟨-, -, hsc, -⟩ := left
      rw [hsc]; simp [SessionOutlet.afterReset]
  have shape : s.openConfirmed x = (s.modSp x confirmedOpen).leaveClosing x := by
    rw [openConfirmed_eq _ rfl]
    dsimp only
    rw [opened, stays, ite_self, hpending]
    rfl
  exact ⟨shape ▸ left, shape⟩

/-- In the ramp-down the confirmation of the order of 0 takes the open step. -/
theorem openConfirmed_rampDown (hstate : (s.outlet x).sc.state = .closing) (hstep : (s.outlet x).sc.step = .rampDown)
    (hpending : (s.outlet x).sp.pendingClose = false) (hconfirmed : (s.outlet x).sp.isConfirmed = false)
    (hordered : (s.outlet x).sp.ordered = 0) : s.openConfirmed x = (s.modSp x confirmedOpen).openStep x := by
  rw [openConfirmed_eq _ rfl]
  have opened : (s.modSp x confirmedOpen).contactorOpened x = s.modSp x confirmedOpen :=
    contactorOpened_idle (by rw [State.modSp_sc, hstate]; decide) fun _ => by rw [State.modSp_sc]; exact hstep
  dsimp only
  rw [opened, hpending, if_neg Bool.false_ne_true, if_pos ⟨hconfirmed, hordered⟩]
  unfold State.endRampDown State.inRampDown
  rw [if_pos (by simp [hstate, hstep])]

/-- An open confirmed at an outlet OUT_OF_SERVICE settles an open check, and returns the outlet unless the emergency stop holds it. -/
theorem openConfirmed_outOfService (hstate : (s.outlet x).sc.state = .outOfService)
    (hpending : (s.outlet x).sp.pendingClose = false) : s.openConfirmed x =
      if (s.outlet x).sc.openCheck then (s.modSp x confirmedOpen).settle x
      else if s.estop then s.modSp x confirmedOpen else (s.modSp x confirmedOpen).enter x .vacant := by
  have opened : (s.modSp x confirmedOpen).contactorOpened x = if (s.outlet x).sc.openCheck then (s.modSp x confirmedOpen).settle x
      else if s.estop then s.modSp x confirmedOpen else (s.modSp x confirmedOpen).enter x .vacant := by
    unfold State.contactorOpened
    rw [State.modSp_sc, hstate]
    dsimp only
    rw [(State.modSp_frame s x _).2.2.2.2.1]
  rw [openConfirmed_eq _ rfl]
  dsimp only
  rw [opened, hpending]
  have stays : ∀ u : State, (u.outlet x).sc.state ≠ .closing →
      (if (s.outlet x).sp.isConfirmed = false ∧ (s.outlet x).sp.ordered = 0 then u.endRampDown x else u) = u := fun u hu => by
    rw [endRampDown_elsewhere (.inl hu), ite_self]
  rw [stays, if_neg (by decide)]
  split
  · rw [State.settle, enter_sc]
    split <;> simp
  · split
    · rw [State.modSp_sc, hstate]; decide
    · rw [enter_sc]; simp

end

end Sys2Proof.Proofs.OutletLaws
end

section
/-! Every operation keeps the laws of the outlets, and so does every command. -/

namespace Sys2Proof.Proofs.OutletLawKept

open Machine OutletOperations StationWork RoundSteps RoundLaw EveryCommand Stopping OutletLaws

/-! ## Records that differ in nothing the law reads -/

/-- What the law of one outlet's record reads, but for the ceiling record, is the same. -/
structure Alike (o p : OutletRecord) : Prop where
  state : p.sc.state = o.sc.state := by simp
  step : p.sc.step = o.sc.step := by simp
  endReason : p.sc.session.map SessionRecord.endReason = o.sc.session.map SessionRecord.endReason := by simp
  openCheck : p.sc.openCheck = o.sc.openCheck := by simp
  awaitTimer : p.sc.awaitTimer = o.sc.awaitTimer := by simp
  idleTimer : p.sc.idleTimer = o.sc.idleTimer := by simp
  silenceTimer : p.mu.silenceTimer = o.mu.silenceTimer := by simp
  window : p.mu.windowOpen = o.mu.windowOpen := by simp
  contactor : p.sp.contactor = o.sp.contactor := by simp
  pendingClose : p.sp.pendingClose = o.sp.pendingClose := by simp

theorem bind_endReason (o : Option SessionRecord) : o.bind SessionRecord.endReason = (o.map SessionRecord.endReason).join := by
  cases o <;> rfl

theorem Alike.record {o p : OutletRecord} (a : Alike o p) (h : o.Lawful)
    (ramp : o.sc.state = .closing → o.sc.step = .rampDown → p.sp.ordered = 0 ∧ p.sp.orderTimer = .running) : p.Lawful := by
  have present : p.sc.session.isSome = o.sc.session.isSome := by
    have := congrArg Option.isSome a.endReason
    rwa [Option.isSome_map, Option.isSome_map] at this
  have absent : p.sc.session = none ↔ o.sc.session = none := by
    rw [← Option.isNone_iff_eq_none, ← Option.isNone_iff_eq_none, ← Option.not_isSome, present, Option.not_isSome]
  obtain ⟨h1, h2, h3, h4, h5, h6, h7, h8, h9, h10, -⟩ := h
  unfold OutletRecord.Lawful
  rw [bind_endReason] at h4 h5 ⊢
  rw [a.state, a.step, a.endReason, a.openCheck, a.awaitTimer, a.idleTimer, a.silenceTimer, a.window, a.contactor, a.pendingClose, present]
  exact ⟨h1, fun g => absent.2 (h2 g), h3, h4, h5, h6, h7, h8, h9, h10, fun g => ramp g.1 g.2⟩

section
variable {s t : State} {x : Outlet}

/-- The law is kept where the outlet's record is alike and its stage port lawful. -/
theorem law_of_alike (law : Law s) (work : OutletWork x s t) (a : Alike (s.outlet x) (t.outlet x)) (stage : (t.outlet x).sp.Lawful)
    (ramp : (s.outlet x).sc.state = .closing → (s.outlet x).sc.step = .rampDown →
      (t.outlet x).sp.ordered = 0 ∧ (t.outlet x).sp.orderTimer = .running) : Law t := by
  refine law.ofWork work ⟨stage, a.record (law.fits x).2 ramp⟩ fun g _ => ⟨a.state.trans g, fun none => ?_⟩
  have := a.endReason
  rw [none] at this
  exact Option.map_eq_none_iff.1 this

/-- The law is kept where the stage port's record is the same. -/
theorem law_of_port (law : Law s) (work : OutletWork x s t) (a : Alike (s.outlet x) (t.outlet x))
    (port : (t.outlet x).sp = (s.outlet x).sp := by simp) : Law t :=
  law_of_alike law work a (port ▸ (law.fits x).1) fun h g => port ▸ (law.fits x).rampDown h g

theorem law_modMu (law : Law s) (f : MeterOutlet → MeterOutlet)
    (silence : (f (s.outlet x).mu).silenceTimer = (s.outlet x).mu.silenceTimer := by rfl)
    (window : (f (s.outlet x).mu).windowOpen = (s.outlet x).mu.windowOpen := by rfl) : Law (s.modMu x f) := by
  have fits : ∀ y, Fits ((s.modMu x f).outlet y) := fun y => by
    by_cases hy : y = x
    · subst hy
      have alike : Alike (s.outlet y) ((s.modMu y f).outlet y) :=
        { silenceTimer := by rw [State.modMu_same]; exact silence, window := by rw [State.modMu_same]; exact window }
      refine ⟨by rw [State.modMu_sp]; exact (law.fits y).1, alike.record (law.fits y).2 fun h g => ?_⟩
      rw [State.modMu_sp]; exact (law.fits y).rampDown h g
    · rw [State.modMu_other _ _ _ _ hy]; exact law.fits y
  have estop : (s.modMu x f).estop = s.estop := by simp
  have fit : ∀ y, (s.modMu x f).fitted y = s.fitted y := ShareLaw.fitted_of_cf (by simp)
  refine ⟨fits, fun h y => ?_, fun y h => ?_⟩
  · rw [State.modMu_sc]; exact law.stopped (estop ▸ h) y
  · rw [State.modMu_sc]; exact law.absent y (fit y ▸ h)

theorem law_modFlags (law : Law s) (f : SessionFlags → SessionFlags) : Law (s.modFlags x f) :=
  law_of_port law (modFlags_work s x f) { endReason := by rw [modFlags_sc, Option.map_map]; rfl }

theorem law_modSession (law : Law s) (f : SessionRecord → SessionRecord) (id : ∀ r, (f r).id = r.id)
    (kept : ∀ r, (f r).endReason = r.endReason) : Law (s.modSession x f) :=
  have ends : SessionRecord.endReason ∘ f = SessionRecord.endReason := funext kept
  law_of_port law (modSession_work s x f id) { endReason := by rw [modSession_sc, Option.map_map, ends] }

theorem law_sameOutlets (law : Law s) (hA : t.outA = s.outA := by rfl) (hB : t.outB = s.outB := by rfl)
    (hestop : t.estop = s.estop := by rfl) (hstraps : t.cf.straps = s.cf.straps := by rfl) : Law t := by
  have out := outlet_congr hA hB
  have fit : ∀ x, t.fitted x = s.fitted x := fun x => by unfold State.fitted; rw [hstraps]
  refine ⟨fun x => out x ▸ law.fits x, fun g x => ?_, fun x g => ?_⟩
  · rw [out]; exact law.stopped (hestop ▸ g) x
  · rw [out]; exact law.absent x (fit x ▸ g)

/-! ## Orders and draws -/

theorem law_order (law : Law s) (v : Nat)
    (ramp : (s.outlet x).sc.state = .closing → (s.outlet x).sc.step = .rampDown → v = 0) : Law (s.order x v) := by
  obtain ⟨contactor, -, -, pending, -, -, -⟩ := s.order_contactor x v
  obtain ⟨same, other⟩ := s.order_spec x v
  by_cases h : v = (s.outlet x).sp.ordered
  · rw [same h]; exact law
  · have port := (other h).1
    refine law_of_alike law (order_work s x v) { contactor := contactor, pendingClose := pending } ?_ fun g k => ?_
    · obtain ⟨h1, h2, h3, h4, h5, -, -⟩ := (law.fits x).1
      rw [port]
      exact ⟨h1, h2, h3, h4, h5, by simp, by simp⟩
    · exact absurd ((ramp g k).trans ((law.fits x).rampDown g k).1.symm) h

theorem law_giveCeiling (law : Law s) (c : Nat) (h : c ≤ s.outletDemand x) : Law (s.giveCeiling x c) := by
  have ordered : Law (s.order x c) := law_order law c fun closing _ => by
    have none : s.outletDemand x = 0 := by
      unfold State.outletDemand
      rw [if_neg fun g => by rw [closing] at g; exact absurd g.2 (by decide)]
    omega
  unfold State.giveCeiling
  dsimp only
  split
  · exact law_modFlags ordered _
  · exact ordered

/-! ## Stops and deliveries -/

theorem law_ordinaryStop (law : Law s) {r : SessionRecord} (hr : (s.outlet x).sc.session = some r)
    (h : (s.outlet x).sc.state.running = true) (reason : Nat) : Law (s.ordinaryStop x reason) :=
  law.ofWorkInUse (ordinaryStop_work s x reason) (not_outOfService_of_running h)
    (ordinaryStop_spec reason (law.inSession hr (.inl h)) (not_closing_of_running h)).2

theorem law_quickStop (law : Law s) {r : SessionRecord} (hr : (s.outlet x).sc.session = some r)
    (h : (s.outlet x).sc.state.running = true) (reason : Nat) : Law (s.quickStop x reason) :=
  law.ofWorkInUse (quickStop_work s x reason) (not_outOfService_of_running h)
    (quickStop_spec reason (law.inSession hr (.inl h)) (not_closing_of_running h)).2

theorem law_testCaps (law : Law s) : Law (s.testCaps x) := by
  unfold State.testCaps
  split
  · next h =>
    obtain ⟨r, hr, -⟩ := Option.bind_eq_some_iff.1 h
    split
    · next running => exact law_ordinaryStop law hr running _
    · exact law
  · exact law

theorem law_deliver (law : Law s) (wh minute : Nat) : Law (s.deliver x wh minute) := by
  unfold State.deliver
  split
  · exact law
  · next r hr =>
    dsimp only
    split
    · exact law_testCaps law
    · have billed : ∀ b n p, Law (s.modSession x fun r => r.addEnergy b n p) := fun b n p =>
        law_modSession law _ (fun _ => rfl) fun _ => rfl
      split
      · next h => exact law_ordinaryStop (r := _) (billed _ _ _) (by rw [modSession_sc, hr]; rfl) (by rw [modSession_sc]; exact h.2) _
      · exact law_testCaps (billed _ _ _)

/-! ## The halt and the clash at one outlet -/

theorem law_suspend (law : Law s) : Law (s.suspend x) := by
  by_cases h : (s.outlet x).sc.state = .connecting ∨ (s.outlet x).sc.state = .energising
  · have running : (s.outlet x).sc.state.running = true := by obtain h | h := h <;> rw [h] <;> rfl
    have away := not_outOfService_of_running running
    exact law.ofWorkInUse (suspend_work s x) away
      (fits_of_suspended law h (suspend_spec (law.fits x).1 ((law.fits x).notWelded away) h))
  · obtain ⟨h1, h2⟩ := not_or.1 h
    rw [suspend_elsewhere h1 h2]; exact law

/-- In SUSPENDED the contactor is OPEN or opens. -/
theorem suspended_contactor (law : Law s) (h : (s.outlet x).sc.state = .suspended) :
    (s.outlet x).sp.contactor = .isOpen ∨ (s.outlet x).sp.contactor = .openWait := by
  have fits := (law.fits x).contactor
  rw [h] at fits
  cases hc : (s.outlet x).sp.contactor <;> rw [hc] at fits <;> simp_all [contactorFits]

theorem law_resume (law : Law s) : Law (s.resume x) := by
  unfold State.resume
  split
  · next h =>
    have running : (s.outlet x).sc.state.running = true := by rw [h.1]; rfl
    obtain ⟨r, hr, hend⟩ := (law.fits x).running running
    exact law.ofWorkInUse (connect_work s x) (not_outOfService_of_running running)
      (fits_of_connect (law.inSession hr (.inl running)) hend (by rw [h.1]; decide) (not_closing_of_running running)
        (suspended_contactor law h.1))
  · exact law

/-- In AWAIT_PLUG and IDLE the contactor is OPEN. -/
theorem waiting_contactor (law : Law s) (h : (s.outlet x).sc.state = .awaitPlug ∨ (s.outlet x).sc.state = .idle) :
    (s.outlet x).sp.contactor = .isOpen := by
  have fits := (law.fits x).contactor
  obtain h | h := h <;> rw [h] at fits <;> cases hc : (s.outlet x).sp.contactor <;> rw [hc] at fits <;>
    first | rfl | exact absurd fits (by simp [contactorFits])

theorem law_endAndSettle (law : Law s) {r : SessionRecord} (hr : (s.outlet x).sc.session = some r)
    (h : (s.outlet x).sc.state = .awaitPlug ∨ (s.outlet x).sc.state = .idle) (reason : Nat) : Law (s.endAndSettle x reason) := by
  have away : (s.outlet x).sc.state ≠ .outOfService := by obtain h | h := h <;> rw [h] <;> decide
  have moved : (s.outlet x).sc.state ≠ .vacant := by obtain h | h := h <;> rw [h] <;> decide
  have settled := endAndSettle_settledAs (st := .vacant) reason hr (by rw [(law.inUse away).1]; rfl) moved
  refine law.ofWorkInUse (endAndSettle_work s x reason) away (fits_of_settledAs settled ?_ (.inl ⟨rfl, ?_⟩))
  · rw [State.endAndSettle_sp]; exact (law.fits x).1
  · rw [State.endAndSettle_sp]; exact waiting_contactor law h

/-- Ending the session anew in CLOSING. -/
theorem inSession_endWith {r : SessionRecord} (h : InSession s x r) (reason : Nat) :
    InSession (s.endWith x reason) x { r with endReason := some reason } where
  stage := by rw [State.endWith_sp]; exact h.stage
  sound := by rw [State.endWith_sp]; exact h.sound
  session := by rw [endWith_sc, h.session]; rfl
  openCheck := by rw [endWith_sc]; exact h.openCheck
  awaitTimer := by rw [endWith_sc]; exact h.awaitTimer
  idleTimer := by rw [endWith_sc]; exact h.idleTimer
  window := by rw [State.endWith_mu]; exact h.window
  released := by simpa using h.released

theorem law_endWith_closing (law : Law s) (h : (s.outlet x).sc.state = .closing) (reason : Nat) : Law (s.endWith x reason) := by
  obtain ⟨r, hr, hend⟩ := (law.fits x).ended (.inl h)
  refine law.ofWorkInUse (endWith_work s x reason) (by rw [h]; decide) ⟨by rw [State.endWith_sp]; exact (law.fits x).1, ?_⟩
  obtain ⟨h1, h2, h3, h4, h5, h6, h7, h8, h9, h10, h11⟩ := (law.fits x).2
  simp only [OutletRecord.Lawful, endWith_sc, State.endWith_sp, State.endWith_mu, h] at *
  refine ⟨h1, by simp, by simp, fun _ => by rw [hr]; rfl, by simp, h6, h7, h8, h9, by rw [h10, Option.isSome_map], h11⟩

theorem law_endRampDown (law : Law s) : Law (s.endRampDown x) := by
  by_cases h : (s.outlet x).sc.state = .closing ∧ (s.outlet x).sc.step = .rampDown
  · obtain ⟨r, hr, hend⟩ := (law.fits x).ended (.inl h.1)
    have inside := law.inSession hr (.inr h.1)
    exact law.ofWorkInUse (endRampDown_work s x) (by rw [h.1]; decide)
      (fits_of_stepsOpen inside h.1 hend (stopped_of (law.fits x).silenceTimer (by rw [h.1]; decide)) (endRampDown_spec inside h.1 h.2))
  · rw [endRampDown_elsewhere (not_and_or.1 h)]; exact law

theorem law_clashOutlet (law : Law s) : Law (s.clashOutlet x) := by
  have quick : (s.outlet x).sc.state.running = true → Law (s.quickStop x EndReason.numberClash) := fun h =>
    let ⟨_, hr, _⟩ := (law.fits x).running h
    law_quickStop law hr h _
  unfold State.clashOutlet
  cases h : (s.outlet x).sc.state with
  | connecting => exact quick (by rw [h]; rfl)
  | energising => exact quick (by rw [h]; rfl)
  | suspended => exact quick (by rw [h]; rfl)
  | closing => exact law_endRampDown (law_endWith_closing law h _)
  | awaitPlug =>
    obtain ⟨r, hr, -⟩ := (law.fits x).awaitPlug h
    exact law_endAndSettle law hr (.inl h) _
  | idle =>
    obtain ⟨r, hr, -⟩ := (law.fits x).ended (.inr h)
    exact law_endAndSettle law hr (.inr h) _
  | vacant => exact law
  | outOfService => exact law

end

end Sys2Proof.Proofs.OutletLawKept
end

section
/-! The emergency stop, its release and the service restart at both outlets (R103, R104, R107, R145, R150). -/

namespace Sys2Proof.Proofs.StopAndRestart

open Machine OutletOperations StationWork Stopping OutletLaws OutletLawKept

/-! ## The records settled in one step -/

/-- The records of the list have been settled in its order. -/
structure Settles (s t : State) (l : List SessionRecord) : Prop where
  sq : t.sq = { queue := s.sq.queue ++ l.map s.settlementOf, reserved := s.sq.reserved - l.length }
  ts : t.ts = l.foldl (fun b r => b.unbind r.bank) s.ts

theorem Settles.nothing {s t : State} (hsq : t.sq = s.sq) (hts : t.ts = s.ts) : Settles s t [] := by
  refine ⟨?_, hts⟩
  rw [hsq]; simp

theorem settles_of_settledAs {s t : State} {x : Outlet} {r : SessionRecord} {st : OutletState} (h : SettledAs s t x r st) :
    Settles s t [r] := ⟨h.1, h.2.1⟩

theorem Settles.trans {s t u : State} {l m : List SessionRecord} (h : Settles s t l) (g : Settles t u m) (hcf : t.cf = s.cf) :
    Settles s u (l ++ m) := by
  obtain ⟨hsq, hts⟩ := h
  obtain ⟨gsq, gts⟩ := g
  have same : t.settlementOf = s.settlementOf := funext (settlementOf_congr hcf)
  refine ⟨?_, by rw [gts, hts, List.foldl_append]⟩
  rw [gsq, hsq, same]
  simp only [List.map_append, List.append_assoc, List.length_append]
  congr 1
  omega

theorem filterMap_outlets (f : Outlet → Option SessionRecord) :
    [Outlet.a, Outlet.b].filterMap f = (f .a).toList ++ (f .b).toList := by
  cases ha : f .a <;> cases hb : f .b <;> simp [ha, hb]

/-! ## A contactor opened without a hand-on (R103, R107) -/

/-- The stage port of an outlet that the emergency stop has stopped. -/
def stoppedPort (o : StageOutlet) : StageOutlet := o.orderedZero.quietOpen

/-- The stage port of an outlet at a restart. -/
def restartedPort (o : StageOutlet) : StageOutlet := { o.orderedZero.quietOpen.unweld with pendingClose := false }

theorem orderedZero_of_zero {o : StageOutlet} (h : o.ordered = 0) : o.orderedZero = o := if_pos h

theorem pendingClose_of_not_openWait {o : StageOutlet} (h : o.Lawful) (hc : o.contactor ≠ .openWait) : o.pendingClose = false := by
  obtain ⟨-, -, pending, -⟩ := h
  exact Bool.eq_false_iff.2 fun g => hc (pending g)

theorem feedback_open {o : StageOutlet} (h : o.Lawful) (hc : o.contactor = .isOpen ∨ o.contactor = .closeWait) :
    o.feedbackClosed = false := by
  obtain ⟨-, -, -, opened, -⟩ := h
  exact opened hc

theorem feedback_closed {o : StageOutlet} (h : o.Lawful) (hc : o.contactor = .closed ∨ o.contactor = .openWait) :
    o.feedbackClosed = true := by
  obtain ⟨-, -, -, -, closed, -⟩ := h
  exact closed hc

theorem quietOpen_eq {o : StageOutlet} (h : o.Lawful) (zero : o.ordered = 0) :
    o.quietOpen = if o.contactor = .isOpen ∨ o.contactor = .welded then o else openCommanded o := by
  have keeps := pendingClose_of_not_openWait h
  obtain ⟨drive, timer, -, opened, closed, -, -⟩ := h
  unfold StageOutlet.quietOpen openCommanded
  rw [orderedZero_of_zero zero]
  cases hc : o.contactor with
  | isOpen => simp
  | welded => simp
  | closeWait =>
    have pendingClose := keeps (by rw [hc]; decide)
    rw [opened (.inr hc)]
    simp [StageOutlet.release, StageOutlet.confirmOpen, zero, OrderTimer.onConfirmation_eq, pendingClose]
  | closed =>
    have pendingClose := keeps (by rw [hc]; decide)
    rw [closed (.inl hc)]
    simp [StageOutlet.release, pendingClose]
  | openWait =>
    have driveClosed : o.driveClosed = false := Bool.eq_false_iff.2 fun g => by
      obtain g | g := drive.1 g <;> rw [hc] at g <;> cases g
    rw [closed (.inr hc)]
    simp [← hc, driveClosed, timer.2 (.inr hc)]
    cases o; simp_all

/-- What R103 and R107 leave of a stage port: no drive, no close behind an open, and the contactor that the feedback tells. -/
structure Quiet (o p : StageOutlet) : Prop where
  lawful : p.Lawful
  drive : p.driveClosed = false
  pendingClose : p.pendingClose = false
  feedback : p.feedbackClosed = o.feedbackClosed
  contactor : p.contactor = if o.contactor = .welded then .welded else if o.feedbackClosed = true then .openWait else .isOpen

theorem drive_released {o : StageOutlet} (h : o.Lawful) (hc : o.contactor = .isOpen ∨ o.contactor = .openWait ∨ o.contactor = .welded) :
    o.driveClosed = false := Bool.eq_false_iff.2 fun g => by
  obtain g | g := h.1.1 g <;> rw [g] at hc <;> simp at hc

theorem orderedZero_lines (o : StageOutlet) : o.orderedZero.contactor = o.contactor ∧ o.orderedZero.feedbackClosed = o.feedbackClosed ∧
    o.orderedZero.plugPresent = o.plugPresent := by
  rw [orderedZero_eq]; exact ⟨rfl, rfl, rfl⟩

theorem orderedZero_orderedZero (o : StageOutlet) : o.orderedZero.orderedZero = o.orderedZero :=
  orderedZero_of_zero (orderedZero_ordered o)

theorem openCommanded_orderedZero (o : StageOutlet) : openCommanded o.orderedZero = openCommanded o := by
  unfold openCommanded
  rw [orderedZero_orderedZero, (orderedZero_lines o).2.1]

theorem stoppedPort_eq {o : StageOutlet} (h : o.Lawful) :
    stoppedPort o = if o.contactor = .isOpen ∨ o.contactor = .welded then o.orderedZero else openCommanded o := by
  rw [stoppedPort, quietOpen_eq (orderedZero_lawful h) (orderedZero_ordered o), (orderedZero_lines o).1, openCommanded_orderedZero]

theorem stoppedPort_quiet {o : StageOutlet} (h : o.Lawful) : Quiet o (stoppedPort o) := by
  have zero := orderedZero_lawful h
  obtain ⟨lc, lf, -⟩ := orderedZero_lines o
  rw [stoppedPort_eq h]
  split
  · next hc =>
    refine ⟨zero, drive_released zero ?_, pendingClose_of_not_openWait zero ?_, lf, ?_⟩
    · rw [lc]; obtain hc | hc := hc <;> simp [hc]
    · rw [lc]; obtain hc | hc := hc <;> simp [hc]
    · rw [lc]
      obtain hc | hc := hc
      · simp [hc, feedback_open h (.inl hc)]
      · simp [hc]
  · next hc =>
    obtain ⟨-, notWelded⟩ := not_or.1 hc
    obtain ⟨feedback, -, -, drive⟩ := openCommanded_lines o
    refine ⟨openCommanded_lawful h, drive, openCommanded_pendingClose h, feedback, ?_⟩
    rw [if_neg notWelded]
    obtain ⟨opened, hf⟩ | ⟨waits, -, hf⟩ := openCommanded_contactor o
    · rw [if_neg hf, opened]
    · rw [if_pos hf, waits]

theorem stoppedPort_ordered (o : StageOutlet) : (stoppedPort o).ordered = 0 := by
  rw [stoppedPort, ShareLaw.quietOpen_ordered, orderedZero_ordered]

/-- An outlet OUT_OF_SERVICE is quiet as it stands. -/
theorem quiet_of_outOfService {o : OutletRecord} (h : Fits o) (hstate : o.sc.state = .outOfService) : Quiet o.sp o.sp := by
  have fits := h.contactor
  obtain ⟨-, -, -, opened, closed, -, -⟩ := h.stage
  rw [hstate] at fits
  refine ⟨h.stage, drive_released h.stage ?_, ?_, rfl, ?_⟩ <;> cases hc : o.sp.contactor <;> rw [hc] at fits <;>
    simp_all [contactorFits, pendingClose_of_not_openWait h.stage]

/-! ## The emergency stop at one outlet (R145) -/

/-- What the emergency stop makes of an outlet whose stage port is quiet. -/
structure Stopped (s t : State) (x : Outlet) : Prop where
  fits : Fits (t.outlet x)
  state : (t.outlet x).sc.state = .outOfService
  port : (t.outlet x).sp = (s.outlet x).sp
  session : (s.outlet x).sc.session = none → (t.outlet x).sc.session = none
  waits : ∀ r, (s.outlet x).sc.session = some r → (s.outlet x).sp.feedbackClosed = true →
    (t.outlet x).sc.openCheck = true ∧ (t.outlet x).sp.contactor = .openWait ∧
    (t.outlet x).sc.session = some { r with endReason := some 138 }
  settled : ∀ r, (s.outlet x).sc.session = some r → (s.outlet x).sp.feedbackClosed = false →
    (t.outlet x).sc = SessionOutlet.afterReset .outOfService ∧
    (t.outlet x).mu = { (s.outlet x).mu.closeWindow with silenceTimer := false }
  settles : Settles s t (if (s.outlet x).sp.feedbackClosed = false then
    (s.outlet x).sc.session.map fun r => { r with endReason := some 138 } else none).toList

section
variable {s t : State} {x : Outlet}

/-- A session settled at the emergency stop. -/
theorem stopped_of_settledAs {r : SessionRecord} (hr : (s.outlet x).sc.session = some r) (stage : (s.outlet x).sp.Lawful)
    (opened : (s.outlet x).sp.contactor = .isOpen) (hf : (s.outlet x).sp.feedbackClosed = false)
    (port : (t.outlet x).sp = (s.outlet x).sp)
    (h : SettledAs s t x { r with endReason := some 138 } .outOfService) : Stopped s t x := by
  have fits := fits_of_settledAs h (by rw [port]; exact stage) (.inr ⟨rfl, by rw [port, opened]; rfl⟩)
  have settles := settles_of_settledAs h
  obtain ⟨-, -, hsc, hmu⟩ := h
  exact ⟨fits, by rw [hsc]; rfl, port, by simp [hr], by simp [hf], fun r' h' _ => ⟨hsc, hmu⟩, by simpa [hr, hf] using settles⟩

/-- R145 at an outlet whose session's contactor may still have to open. -/
theorem stopOpening_stopped {o : OutletRecord} (h : Fits o) (hsc : (s.outlet x).sc = o.sc) (hmu : (s.outlet x).mu = o.mu)
    (quiet : Quiet o.sp (s.outlet x).sp) (hestop : s.estop = true) {r : SessionRecord} (hr : o.sc.session = some r)
    (hstate : o.sc.state.running = true ∨ o.sc.state = .closing) : Stopped s (s.stopOpening x) x := by
  have away : o.sc.state ≠ .outOfService ∧ o.sc.state ≠ .awaitPlug ∧ o.sc.state ≠ .idle := by
    cases hs : o.sc.state <;> rw [hs] at hstate <;> simp_all [OutletState.running]
  obtain ⟨h1, h2, h3⟩ := away
  have contactor := quiet.contactor
  rw [if_neg (h.notWelded h1)] at contactor
  unfold State.stopOpening
  by_cases hf : o.sp.feedbackClosed = true
  · rw [if_pos hf] at contactor
    rw [if_neg (by rw [contactor]; decide)]
    generalize ht : (((s.endWith x EndReason.emergencyStop).enter x .outOfService).modSc x fun c => { c with openCheck := true }) = t
    have port : (t.outlet x).sp = (s.outlet x).sp := by rw [← ht]; simp
    have sc : (t.outlet x).sc = { o.sc with
        state := .outOfService, openCheck := true, session := some { r with endReason := some 138 } } := by
      rw [← ht, State.modSc_same, enter_sc, endWith_sc, hsc, hr]; rfl
    have mu : (t.outlet x).mu = { o.mu with silenceTimer := false } := by
      rw [← ht, State.modSc_mu, enter_mu, endWith_sc, hsc, if_neg h1, State.endWith_mu, hmu]; rfl
    refine ⟨⟨by rw [port]; exact quiet.lawful, ?_⟩, by rw [sc], port, by simp [hsc, hr], ?_, ?_, ?_⟩
    · have window := h.window
      rw [hr] at window
      simp only [OutletRecord.Lawful, sc, mu, port, contactor, quiet.pendingClose, window, stopped_of h.awaitTimer h2,
        stopped_of h.idleTimer h3]
      simp [contactorFits]
    · intro r' hr' _
      rw [hsc, hr] at hr'
      cases hr'
      exact ⟨by rw [sc], by rw [port, contactor], by rw [sc]⟩
    · intro _ _ open_
      rw [quiet.feedback, hf] at open_; cases open_
    · rw [quiet.feedback, hf, if_neg (by decide)]
      refine .nothing ?_ ?_ <;> rw [← ht] <;> simp
  · rw [if_neg hf] at contactor
    rw [if_pos contactor]
    have settled := endAndSettle_settledAs (s := s) (x := x) (st := .outOfService) EndReason.emergencyStop (by rw [hsc]; exact hr)
      (by rw [hestop]; rfl) (by rw [hsc]; exact h1)
    exact stopped_of_settledAs (by rw [hsc]; exact hr) quiet.lawful contactor (by rw [quiet.feedback]; exact Bool.eq_false_iff.2 hf)
      (by simp) settled

theorem stopOutlet_stopped {o : OutletRecord} (h : Fits o) (hsc : (s.outlet x).sc = o.sc) (hmu : (s.outlet x).mu = o.mu)
    (quiet : Quiet o.sp (s.outlet x).sp) (hestop : s.estop = true) : Stopped s (s.stopOutlet x) x := by
  have waiting : ∀ r, o.sc.session = some r → o.sc.state = .awaitPlug ∨ o.sc.state = .idle →
      Stopped s (s.endAndSettle x EndReason.emergencyStop) x := fun r hr hstate => by
    have opened : o.sp.contactor = .isOpen := by
      have fits := h.contactor
      obtain g | g := hstate <;> rw [g] at fits <;> cases hc : o.sp.contactor <;> rw [hc] at fits <;>
        first | rfl | exact absurd fits (by simp [contactorFits])
    have hf := feedback_open h.stage (.inl opened)
    have contactor := quiet.contactor
    rw [if_neg (by rw [opened]; decide), hf, if_neg (by decide)] at contactor
    have settled := endAndSettle_settledAs (s := s) (x := x) (st := .outOfService) EndReason.emergencyStop (by rw [hsc]; exact hr)
      (by rw [hestop]; rfl) (by rw [hsc]; obtain g | g := hstate <;> rw [g] <;> decide)
    exact stopped_of_settledAs (by rw [hsc]; exact hr) quiet.lawful contactor (by rw [quiet.feedback]; exact hf) (by simp) settled
  have running : o.sc.state.running = true → Stopped s (s.stopOpening x) x := fun g => by
    obtain ⟨r, hr, -⟩ := h.running g
    exact stopOpening_stopped h hsc hmu quiet hestop hr (.inl g)
  unfold State.stopOutlet
  rw [hsc]
  cases hstate : o.sc.state with
  | awaitPlug => obtain ⟨r, hr, -⟩ := h.awaitPlug hstate; exact waiting r hr (.inl hstate)
  | idle => obtain ⟨r, hr, -⟩ := h.ended (.inr hstate); exact waiting r hr (.inr hstate)
  | connecting => exact running (by rw [hstate]; rfl)
  | energising => exact running (by rw [hstate]; rfl)
  | suspended => exact running (by rw [hstate]; rfl)
  | closing =>
    obtain ⟨r, hr, -⟩ := h.ended (.inl hstate)
    exact stopOpening_stopped h hsc hmu quiet hestop hr (.inr hstate)
  | vacant =>
    have none := h.vacant hstate
    have opened : o.sp.contactor = .isOpen := by
      have fits := h.contactor
      rw [hstate] at fits
      cases hc : o.sp.contactor <;> rw [hc] at fits <;> first | rfl | exact absurd fits (by simp [contactorFits])
    have contactor := quiet.contactor
    rw [if_neg (by rw [opened]; decide), feedback_open h.stage (.inl opened), if_neg (by decide)] at contactor
    have mu : ((s.enter x .outOfService).outlet x).mu = { o.mu with silenceTimer := false } := by
      rw [enter_mu, hsc, if_neg (by rw [hstate]; decide), hmu]; rfl
    refine ⟨⟨by simpa using quiet.lawful, ?_⟩, by simp, by simp, by simp, by simp [hsc, none], by simp [hsc, none], ?_⟩
    · have window := h.window
      rw [none] at window
      simp only [OutletRecord.Lawful, enter_sc, mu, State.enter_sp, hsc, contactor, none, window,
        h.openCheck (by rw [hstate]; decide), stopped_of h.awaitTimer (by rw [hstate]; decide),
        stopped_of h.idleTimer (by rw [hstate]; decide)]
      simp [contactorFits]
    · rw [hsc, none]
      have : (if (s.outlet x).sp.feedbackClosed = false then
        Option.map (fun r : SessionRecord => { r with endReason := some 138 }) Option.none else Option.none) = Option.none := by simp
      rw [this]
      exact .nothing (by simp) (by simp)
  | outOfService =>
    obtain ⟨-, present, waits⟩ := h.outOfService hstate
    have alike : OutletRecord.Lawful { o with sp := (s.outlet x).sp } := by
      refine Alike.record (o := o) { contactor := ?_, pendingClose := ?_ } h.2 fun g => by rw [hstate] at g; cases g
      · have old := (quiet_of_outOfService h hstate).contactor
        exact quiet.contactor.trans old.symm
      · exact quiet.pendingClose.trans (quiet_of_outOfService h hstate).pendingClose.symm
    dsimp only
    split
    · next hcheck =>
      rw [hcheck] at present
      obtain ⟨r, hr⟩ := Option.isSome_iff_exists.1 present
      have contactor := waits hcheck
      have hf := feedback_closed h.stage (.inr contactor)
      have port := quiet.contactor
      rw [if_neg (by rw [contactor]; decide), if_pos hf] at port
      have sc : ((s.endWith x EndReason.emergencyStop).outlet x).sc = { o.sc with session := some { r with endReason := some 138 } } := by
        rw [endWith_sc, hsc, hr]; rfl
      refine ⟨⟨by simpa using quiet.lawful, ?_⟩, by rw [sc]; exact hstate, by simp, by simp [hsc, hr], ?_, ?_, ?_⟩
      · obtain ⟨h1, h2, h3, h4, h5, h6, h7, h8, h9, h10, h11⟩ := alike
        simp only [OutletRecord.Lawful, sc, State.endWith_sp, State.endWith_mu, hmu, hstate] at *
        refine ⟨h1, by simp, by simp, by simp, ?_, h6, h7, h8, h9, by rw [h10, hr]; rfl, by simp⟩
        rw [hcheck]
        exact fun _ => ⟨rfl, rfl, fun _ => port⟩
      · intro r' hr' _
        rw [hsc, hr] at hr'
        cases hr'
        exact ⟨by rw [sc]; exact hcheck, by simpa using port, by rw [sc]⟩
      · intro _ _ open_
        rw [quiet.feedback, hf] at open_; cases open_
      · rw [quiet.feedback, hf, if_neg (by decide)]
        exact .nothing (by simp) (by simp)
    · next hcheck =>
      rw [Bool.eq_false_iff.2 hcheck] at present
      have none : o.sc.session = none := Option.not_isSome_iff_eq_none.1 (by rw [present]; decide)
      refine ⟨⟨quiet.lawful, ?_⟩, by rw [hsc]; exact hstate, rfl, id, by simp [hsc, none], by simp [hsc, none], ?_⟩
      · unfold OutletRecord.Lawful
        rw [hsc, hmu]
        exact alike
      · rw [hsc, none]
        have : (if (s.outlet x).sp.feedbackClosed = false then
          Option.map (fun r : SessionRecord => { r with endReason := some 138 }) Option.none else Option.none) = Option.none := by simp
        rw [this]
        exact .nothing rfl rfl

end

end Sys2Proof.Proofs.StopAndRestart
end

section
/-! The emergency stop, its release, the service restart and a new session at both outlets: the laws of the outlets are kept. -/

namespace Sys2Proof.Proofs.StationWide

open Machine OutletOperations StationWork ShareLaw Stopping OutletLaws OutletLawKept StopAndRestart

section
variable {s t : State} {x : Outlet}

/-- Work at outlet A and then at outlet B reaches each outlet from a state in which its record still stands. -/
theorem both_outlet (f : State → Outlet → State) (work : ∀ s x, OutletWork x s (f s x)) (s : State) (x : Outlet) :
    ∃ v, v.outlet x = s.outlet x ∧ v.cf = s.cf ∧ v.estop = s.estop ∧ (f (f s .a) .b).outlet x = (f v x).outlet x ∧
      (f (f s .a) .b = f v x ∨ f (f s .a) .b = f (f v x) .b) := by
  cases x with
  | a => exact ⟨s, rfl, rfl, rfl, (work _ .b).other .a (by decide), .inr rfl⟩
  | b => exact ⟨f s .a, (work s .a).other .b (by decide), (work s .a).cf, (work s .a).estop, rfl, .inl rfl⟩

/-! ## The emergency stop -/

theorem stopStage_outlet (hf : s.fitted x = true) :
    (s.stopStage x).outlet x = { s.outlet x with sp := stoppedPort (s.outlet x).sp } := by
  unfold State.stopStage
  rw [if_pos hf, State.modSp_same, order_zero_sp]
  dsimp only
  rw [State.order_mu, State.order_sc]
  rfl

/-- The state in which the session controller ends the sessions: the stage ports are stopped. -/
def portsStopped (s : State) : State := ({ s with estop := true }.stopStage .a).stopStage .b

/-- The stages' work of an emergency stop, with what it leaves. -/
theorem portsStopped_frame (law : Law s) : (portsStopped s).estop = true ∧ (portsStopped s).cf = s.cf ∧ (portsStopped s).sq = s.sq ∧
    (portsStopped s).ts = s.ts ∧ ∀ x, ((portsStopped s).outlet x).sc = (s.outlet x).sc ∧ ((portsStopped s).outlet x).mu = (s.outlet x).mu ∧
      Quiet (s.outlet x).sp ((portsStopped s).outlet x).sp ∧ (s.fitted x = true → ((portsStopped s).outlet x).sp.ordered = 0) := by
  have work := (stopStage_work { s with estop := true } .a).toOutletsWork.trans (stopStage_work _ .b).toOutletsWork
  have book : ∀ (u : State) y, (u.stopStage y).sq = u.sq ∧ (u.stopStage y).ts = u.ts := fun u y => by
    unfold State.stopStage; split <;> simp
  refine ⟨work.estop, work.cf, ((book _ .b).1.trans (book _ .a).1), ((book _ .b).2.trans (book _ .a).2), fun x => ?_⟩
  obtain ⟨v, same, hcf, -, out, -⟩ := both_outlet State.stopStage stopStage_work { s with estop := true } x
  rw [State.outlet_with_estop] at same
  have fit : v.fitted x = s.fitted x := fitted_of_cf (s := s) hcf x
  unfold portsStopped
  rw [out]
  by_cases hf : s.fitted x = true
  · rw [stopStage_outlet (by rw [fit]; exact hf), same]
    exact ⟨rfl, rfl, stoppedPort_quiet (law.fits x).1, fun _ => stoppedPort_ordered _⟩
  · rw [stopStage_absent _ _ (by rw [fit]; exact hf), same]
    exact ⟨rfl, rfl, quiet_of_outOfService (law.fits x) (law.absent x (Bool.eq_false_iff.2 hf)).1, fun g => absurd g hf⟩

/-- R145 at both outlets, outlet A first. -/
theorem stopBoth_stopped (law : Law s) : ∃ u t, t = ((portsStopped s).stopOutlet .a).stopOutlet .b ∧ u = (portsStopped s).stopOutlet .a ∧
    Stopped (portsStopped s) u .a ∧ Stopped u t .b ∧ t.outA = u.outA ∧ u.outB = (portsStopped s).outB ∧ u.cf = s.cf ∧ t.cf = s.cf ∧
    t.estop = true := by
  obtain ⟨hestop, hcf, -, -, outlets⟩ := portsStopped_frame law
  have work := stopOutlet_work (portsStopped s) .a
  have other := work.other .b (by decide)
  obtain ⟨scA, muA, quietA, -⟩ := outlets .a
  obtain ⟨scB, muB, quietB, -⟩ := outlets .b
  generalize portsStopped s = v at *
  have after := stopOutlet_work (v.stopOutlet .a) .b
  refine ⟨_, _, rfl, rfl, stopOutlet_stopped (law.fits .a) scA muA quietA hestop, ?_, after.other .a (by decide), other,
    work.cf.trans hcf, (after.cf.trans work.cf).trans hcf, (after.estop.trans work.estop).trans hestop⟩
  exact stopOutlet_stopped (law.fits .b) (by rw [other, scB]) (by rw [other, muB]) (by rw [other]; exact quietB)
    (work.estop.trans hestop)

theorem law_stop (law : Law s) : Law (((portsStopped s).stopOutlet .a).stopOutlet .b) := by
  obtain ⟨u, t, rfl, rfl, stopA, stopB, sameA, sameB, -, hcf, -⟩ := stopBoth_stopped law
  obtain ⟨-, -, -, -, outlets⟩ := portsStopped_frame law
  have fits : ∀ x, Fits ((((portsStopped s).stopOutlet .a).stopOutlet .b).outlet x) ∧
      ((((portsStopped s).stopOutlet .a).stopOutlet .b).outlet x).sc.state = .outOfService := fun x => by
    cases x with
    | a => rw [State.outlet_a, sameA]; exact ⟨stopA.fits, stopA.state⟩
    | b => exact ⟨stopB.fits, stopB.state⟩
  refine ⟨fun x => (fits x).1, fun _ x => (fits x).2, fun x hx => ⟨(fits x).2, ?_⟩⟩
  cases x with
  | a => cases hx
  | b =>
    refine stopB.session ?_
    rw [State.outlet_b, sameB]
    exact (congrArg SessionOutlet.session (outlets .b).1).trans (law.absent .b (by rwa [fitted_of_cf hcf] at hx)).2

/-! ## The release of the emergency stop -/

/-- R104: the release takes this outlet to VACANT. -/
abbrev Returns (s : State) (x : Outlet) : Prop :=
  s.fitted x = true ∧ ((s.outlet x).sp.contactor = .isOpen ∨
    ((s.outlet x).sp.contactor = .welded ∧ (s.outlet x).sp.feedbackClosed = false))

/-- What the release makes of an outlet that it returns. -/
structure Returned (s t : State) (x : Outlet) : Prop where
  sc : (t.outlet x).sc = { (s.outlet x).sc with state := .vacant }
  mu : (t.outlet x).mu = { (s.outlet x).mu with silenceTimer := false }
  sp : (t.outlet x).sp = (s.outlet x).sp.unweld
  pending : t.isPending (Cause.ofOutlet x) = true

theorem unweld_lawful {o : StageOutlet} (h : o.Lawful) : o.unweld.Lawful := by
  unfold StageOutlet.unweld
  split
  · next g =>
    have := confirmedOpen_lawful (timerFits h) g.2
    rwa [confirmedOpen, show { o.confirmOpen with pendingClose := false } = o.confirmOpen by
      rw [← pendingClose_of_not_openWait h (by rw [g.1]; decide)]; rfl] at this
  · exact h

theorem releaseOutlet_cases (h : Fits (s.outlet x)) (hstate : (s.outlet x).sc.state = .outOfService) :
    (Returns s x → Returned s (s.releaseOutlet x) x ∧ (s.outlet x).sc.session = none) ∧
    (¬ Returns s x → s.releaseOutlet x = s) := by
  obtain ⟨-, present, waits⟩ := h.outOfService hstate
  have opened : ∀ f : StageOutlet → StageOutlet, ((s.modSp x f).outlet x).sp = f (s.outlet x).sp := fun f => by rw [State.modSp_same]
  constructor
  · rintro ⟨hf, hc⟩
    have notWaiting : (s.outlet x).sp.contactor ≠ .openWait := by obtain g | ⟨g, -⟩ := hc <;> rw [g] <;> decide
    have check : (s.outlet x).sc.openCheck = false := Bool.eq_false_iff.2 fun g => notWaiting (waits g)
    have contactor : (s.outlet x).sp.unweld.contactor = .isOpen := by
      unfold StageOutlet.unweld
      obtain g | g := hc
      · rw [if_neg (by rw [g]; simp)]; exact g
      · rw [if_pos g]; rfl
    have shape : s.releaseOutlet x = (s.modSp x StageOutlet.unweld).enter x .vacant := by
      unfold State.releaseOutlet
      rw [if_pos hf]
      dsimp only
      rw [if_pos ⟨by rw [opened]; exact contactor, by rw [State.modSp_sc]; exact hstate, by rw [State.modSp_sc]; exact check⟩]
    have moved : ((s.modSp x StageOutlet.unweld).outlet x).sc.state ≠ .vacant := by rw [State.modSp_sc, hstate]; decide
    rw [shape]
    refine ⟨⟨by rw [enter_sc, State.modSp_sc], ?_, by rw [State.enter_sp, opened], State.enter_pending _ x _ moved⟩, ?_⟩
    · rw [enter_mu, if_neg moved, State.modSp_mu]; rfl
    · exact Option.not_isSome_iff_eq_none.1 (by rw [present, check]; decide)
  · intro hr
    unfold State.releaseOutlet
    split
    · next hf =>
      have hc := not_and.1 hr hf
      obtain ⟨notOpen, notWelded⟩ := not_or.1 hc
      have same : s.modSp x StageOutlet.unweld = s := modSp_self s x (by rw [StageOutlet.unweld, if_neg notWelded])
      dsimp only
      rw [same, if_neg fun g => notOpen g.1]
    · rfl

theorem fits_of_returned (h : Fits (s.outlet x)) (hstate : (s.outlet x).sc.state = .outOfService) (hr : Returns s x)
    (t_ : Returned s t x) : Fits (t.outlet x) := by
  obtain ⟨-, present, waits⟩ := h.outOfService hstate
  obtain ⟨-, none⟩ := (releaseOutlet_cases h hstate).1 hr
  obtain ⟨-, hc⟩ := hr
  have contactor : (s.outlet x).sp.unweld.contactor = .isOpen := by
    unfold StageOutlet.unweld
    obtain g | g := hc
    · rw [if_neg (by rw [g]; simp)]; exact g
    · rw [if_pos g]; rfl
  rw [none] at present
  have window := h.window
  rw [none] at window
  refine ⟨by rw [t_.sp]; exact unweld_lawful h.1, ?_⟩
  simp only [OutletRecord.Lawful, t_.sc, t_.mu, t_.sp, contactor, none, window, ← present, stopped_of h.awaitTimer (by rw [hstate]; decide),
    stopped_of h.idleTimer (by rw [hstate]; decide)]
  simp [contactorFits]

theorem releaseOutlet_raises (s : State) (x : Outlet) : Raises s (s.releaseOutlet x) := by
  unfold State.releaseOutlet
  split
  · dsimp only
    split
    · exact (modSp_raises s x _).trans (enter_raises _ x _)
    · exact modSp_raises s x _
  · exact .refl s

/-- R104 at both outlets: an outlet returns, or its record stays. -/
theorem releaseBoth_cases (hfits : Fits (s.outlet x)) (hstate : (s.outlet x).sc.state = .outOfService) :
    (Returns s x → Returned s ((s.releaseOutlet .a).releaseOutlet .b) x ∧ (s.outlet x).sc.session = none) ∧
    (¬ Returns s x → ((s.releaseOutlet .a).releaseOutlet .b).outlet x = s.outlet x) := by
  obtain ⟨v, same, hcf, -, out, last⟩ := both_outlet State.releaseOutlet releaseOutlet_work s x
  have returns : Returns v x ↔ Returns s x := by unfold Returns; rw [fitted_of_cf hcf, same]
  obtain ⟨back, stays⟩ := releaseOutlet_cases (s := v) (x := x) (same ▸ hfits) (same ▸ hstate)
  refine ⟨fun hr => ?_, fun hr => ?_⟩
  · obtain ⟨⟨hsc, hmu, hsp, hpending⟩, none⟩ := back (returns.2 hr)
    rw [same] at hsc hmu hsp none
    refine ⟨⟨by rw [out, hsc], by rw [out, hmu], by rw [out, hsp], ?_⟩, none⟩
    obtain last | last := last
    · rw [last]; exact hpending
    · rw [last]; exact releaseOutlet_raises _ .b _ hpending
  · rw [out, stays fun g => hr (returns.1 g), same]

theorem law_release (law : Law s) (hestop : s.estop = true) :
    Law (({ s with estop := false }.releaseOutlet .a).releaseOutlet .b) := by
  have work := (releaseOutlet_work { s with estop := false } .a).toOutletsWork.trans (releaseOutlet_work _ .b).toOutletsWork
  have before : ∀ x, State.outlet { s with estop := false } x = s.outlet x := fun x => s.outlet_with_estop x false
  have fits : ∀ x, Fits (State.outlet { s with estop := false } x) := fun x => by rw [before]; exact law.fits x
  have state : ∀ x, (State.outlet { s with estop := false } x).sc.state = .outOfService := fun x => by
    rw [before]; exact law.stopped hestop x
  refine ⟨fun x => ?_, fun g => ?_, fun x hx => ?_⟩
  · obtain ⟨back, stays⟩ := releaseBoth_cases (fits x) (state x)
    by_cases hr : Returns { s with estop := false } x
    · exact fits_of_returned (fits x) (state x) hr (back hr).1
    · rw [stays hr]; exact fits x
  · rw [work.estop] at g; cases g
  · rw [fitted_of_cf work.cf] at hx
    rw [(releaseBoth_cases (fits x) (state x)).2 fun g => absurd (hx.symm.trans g.1) (by decide), before]
    exact law.absent x hx

/-! ## The service restart -/

theorem restartStage_outlet (hf : s.fitted x = true) :
    (s.restartStage x).outlet x = { s.outlet x with sp := restartedPort (s.outlet x).sp } := by
  unfold State.restartStage
  rw [if_pos hf, State.modSp_same, order_zero_sp]
  dsimp only
  rw [State.order_mu, State.order_sc]
  rfl

/-- R107 at a stage port that obeys R91 and R95. -/
theorem restartedPort_eq {o : StageOutlet} (h : o.Lawful) : restartedPort o =
    if o.contactor = .isOpen then o.orderedZero
    else if o.feedbackClosed = false then
      { o.orderedZero with contactor := .isOpen, driveClosed := false, contactorTimer := false, pendingClose := false, confirmed := 0
                           isConfirmed := true
                           orderTimer := if o.orderedZero.orderTimer = .expired then .expired else .stopped }
    else if o.contactor = .welded then o.orderedZero
    else { o.orderedZero with contactor := .openWait, driveClosed := false, contactorTimer := true, pendingClose := false } := by
  have zero := orderedZero_lawful h
  obtain ⟨lc, lf, -⟩ := orderedZero_lines o
  have pending := fun hc : o.contactor ≠ .openWait => pendingClose_of_not_openWait zero (by rw [lc]; exact hc)
  have port : restartedPort o = { (stoppedPort o).unweld with pendingClose := false } := rfl
  rw [port, stoppedPort_eq h]
  by_cases hopen : o.contactor = .isOpen
  · have none := pending (by rw [hopen]; decide)
    rw [if_pos (.inl hopen), if_pos hopen, StageOutlet.unweld, if_neg (by rw [lc, hopen]; simp), ← none]
  · rw [if_neg hopen]
    by_cases hw : o.contactor = .welded
    · have none := pending (by rw [hw]; decide)
      rw [if_pos (.inr hw), StageOutlet.unweld, lc, lf, if_pos hw]
      by_cases hf : o.feedbackClosed = false
      · rw [if_pos ⟨hw, hf⟩, if_pos hf]
        simp [StageOutlet.confirmOpen, OrderTimer.onConfirmation_eq]
      · rw [if_neg fun g => hf g.2, if_neg hf, ← none]
    · rw [if_neg (not_or.2 ⟨hopen, hw⟩), if_neg hw]
      have notWelded : (openCommanded o).contactor ≠ .welded := by
        obtain ⟨g, -⟩ | ⟨g, -⟩ := openCommanded_contactor o <;> rw [g] <;> decide
      rw [StageOutlet.unweld, if_neg fun g => notWelded g.1]
      by_cases hf : o.feedbackClosed = true
      · rw [if_neg (by rw [hf]; decide), openCommanded, if_pos hf]
      · rw [if_pos (Bool.eq_false_iff.2 hf), openCommanded, if_neg hf]

theorem restartedPort_quiet {o : StageOutlet} (h : o.Lawful) : (restartedPort o).Lawful ∧ (restartedPort o).driveClosed = false ∧
    (restartedPort o).pendingClose = false ∧ (restartedPort o).feedbackClosed = o.feedbackClosed ∧
    (restartedPort o).plugPresent = o.plugPresent ∧ (restartedPort o).ordered = 0 ∧
    (restartedPort o).contactor = if o.feedbackClosed = false then .isOpen else if o.contactor = .welded then .welded else .openWait := by
  have quiet := stoppedPort_quiet h
  obtain ⟨lawful, drive, pending, feedback, contactor⟩ := quiet
  have plug : (stoppedPort o).plugPresent = o.plugPresent := by
    rw [stoppedPort_eq h]
    split
    · exact (orderedZero_lines o).2.2
    · exact (openCommanded_lines o).2.1
  have ordered := stoppedPort_ordered o
  have port : restartedPort o = { (stoppedPort o).unweld with pendingClose := false } := rfl
  rw [port]
  unfold StageOutlet.unweld
  split
  · next g =>
    have hf : o.feedbackClosed = false := by rw [← feedback]; exact g.2
    exact ⟨confirmedOpen_lawful (timerFits lawful) g.2, rfl, rfl, feedback, plug, ordered, by rw [if_pos hf]; rfl⟩
  · next g =>
    refine ⟨by rw [← pending]; exact lawful, drive, rfl, feedback, plug, ordered, ?_⟩
    dsimp only
    rw [contactor] at g ⊢
    cases hf : o.feedbackClosed
    · by_cases hw : o.contactor = .welded
      · exact absurd ⟨if_pos hw, by rw [feedback, hf]⟩ g
      · rw [if_neg hw]; rfl
    · simp

/-- What a restart makes of a fitted outlet whose stage port has been opened. -/
structure Restarted (s t : State) (x : Outlet) : Prop where
  sc : (t.outlet x).sc = SessionOutlet.afterReset
    (if (s.outlet x).sp.contactor = .isOpen ∧ s.estop = false then .vacant else .outOfService)
  mu : (t.outlet x).mu = { MeterOutlet.afterReset with
    lastDraw := (s.outlet x).mu.lastDraw, pulseAsserted := (s.outlet x).mu.pulseAsserted }
  sp : (t.outlet x).sp = (s.outlet x).sp
  settles : Settles s t ((s.outlet x).sc.session.map fun r => { r with endReason := some 140 }).toList

theorem restartOutlet_restarted (hf : s.fitted x = true) : Restarted s (s.restartOutlet x) x := by
  generalize hv : (s.endWith x EndReason.restart).settleRecord x = v
  have vsp : (v.outlet x).sp = (s.outlet x).sp := by rw [← hv]; simp
  have vmu : (v.outlet x).mu = (s.outlet x).mu.closeWindow := by rw [← hv]; simp
  have vsc : (v.outlet x).sc = ((s.endWith x EndReason.restart).outlet x).sc.afterSettling := by rw [← hv]; simp
  have vestop : v.estop = s.estop := by rw [← hv]; simp
  have settles : Settles s v ((s.outlet x).sc.session.map fun r => { r with endReason := some 140 }).toList := by
    rw [← hv]
    unfold State.settleRecord
    rw [endWith_sc]
    cases hr : (s.outlet x).sc.session with
    | none => exact .nothing (by simp) (by simp)
    | some r =>
      refine ⟨?_, ?_⟩
      · have hcf : (s.endWith x EndReason.restart).cf = s.cf := by simp
        have hsq : (s.endWith x EndReason.restart).sq = s.sq := by simp
        dsimp only [Option.map_some]
        rw [hcf, hsq]
        exact s.sq.append_complete (s := s) { r with endReason := some EndReason.restart }
      · simp
  unfold State.restartOutlet
  rw [if_pos hf, hv]
  dsimp only
  rw [vsp, vestop]
  refine ⟨?_, ?_, by simp [vsp], ⟨?_, ?_⟩⟩
  · rw [State.modMu_sc, State.modSc_same, vsc]; rfl
  · rw [State.modMu_same, State.modSc_mu, vmu]; rfl
  · simpa using settles.sq
  · simpa using settles.ts

theorem restartOutlet_absent (hf : s.fitted x ≠ true) : s.restartOutlet x = s := if_neg hf

/-- The state in which the session controller restarts: the stage ports have been opened. -/
def portsRestarted (s : State) : State := (s.restartStage .a).restartStage .b

theorem portsRestarted_frame (s : State) : (portsRestarted s).estop = s.estop ∧ (portsRestarted s).cf = s.cf ∧
    (portsRestarted s).sq = s.sq ∧ (portsRestarted s).ts = s.ts ∧
    ∀ x, (portsRestarted s).outlet x = if s.fitted x = true then { s.outlet x with sp := restartedPort (s.outlet x).sp } else s.outlet x := by
  have work := (restartStage_work s .a).toOutletsWork.trans (restartStage_work _ .b).toOutletsWork
  have book : ∀ (u : State) y, (u.restartStage y).sq = u.sq ∧ (u.restartStage y).ts = u.ts := fun u y => by
    unfold State.restartStage; split <;> simp
  refine ⟨work.estop, work.cf, ((book _ .b).1.trans (book _ .a).1), ((book _ .b).2.trans (book _ .a).2), fun x => ?_⟩
  obtain ⟨v, same, hcf, -, out, -⟩ := both_outlet State.restartStage restartStage_work s x
  unfold portsRestarted
  rw [out]
  split
  · next hf => rw [restartStage_outlet (by rw [fitted_of_cf hcf]; exact hf), same]
  · next hf => rw [restartStage_absent _ _ (by rw [fitted_of_cf hcf]; exact hf), same]

/-- The restart's work at the outlets. -/
def outletsRestarted (s : State) : State := ((portsRestarted s).restartOutlet .a).restartOutlet .b

/-- R107, R125 and R150 at a fitted outlet. -/
theorem outletsRestarted_outlet (hf : s.fitted x = true) :
    ((outletsRestarted s).outlet x).sp = restartedPort (s.outlet x).sp ∧
    ((outletsRestarted s).outlet x).sc = SessionOutlet.afterReset
      (if (restartedPort (s.outlet x).sp).contactor = .isOpen ∧ s.estop = false then .vacant else .outOfService) ∧
    ((outletsRestarted s).outlet x).mu = { MeterOutlet.afterReset with
      lastDraw := (s.outlet x).mu.lastDraw, pulseAsserted := (s.outlet x).mu.pulseAsserted } := by
  obtain ⟨festop, fcf, -, -, outlets⟩ := portsRestarted_frame s
  have before := outlets x
  rw [if_pos hf] at before
  obtain ⟨v, same, hcf, hestop, out, -⟩ := both_outlet State.restartOutlet restartOutlet_work (portsRestarted s) x
  obtain ⟨hsc, hmu, hsp, -⟩ := restartOutlet_restarted (s := v) (x := x) (by rw [fitted_of_cf (hcf.trans fcf)]; exact hf)
  rw [same, before] at hsc hmu hsp
  rw [hestop, festop] at hsc
  unfold outletsRestarted
  rw [out]
  exact ⟨hsp, hsc, hmu⟩

theorem outletsRestarted_absent (hf : s.fitted x ≠ true) : (outletsRestarted s).outlet x = s.outlet x := by
  obtain ⟨-, fcf, -, -, outlets⟩ := portsRestarted_frame s
  have before := outlets x
  rw [if_neg hf] at before
  obtain ⟨v, same, hcf, -, out, -⟩ := both_outlet State.restartOutlet restartOutlet_work (portsRestarted s) x
  unfold outletsRestarted
  rw [out, restartOutlet_absent (by rw [fitted_of_cf (hcf.trans fcf)]; exact hf), same, before]

theorem law_restart (law : Law s) : Law (outletsRestarted s) := by
  have work := restartBoth_work (s := s)
  have fit : ∀ x, (outletsRestarted s).fitted x = s.fitted x := fun x => fitted_of_cf work.cf x
  have fits : ∀ x, Fits ((outletsRestarted s).outlet x) := fun x => by
    by_cases hf : s.fitted x = true
    · obtain ⟨hsp, hsc, hmu⟩ := outletsRestarted_outlet (s := s) hf
      obtain ⟨lawful, -, pending, -, -, -, contactor⟩ := restartedPort_quiet (law.fits x).1
      refine ⟨by rw [hsp]; exact lawful, ?_⟩
      simp only [OutletRecord.Lawful, hsc, hmu, hsp, SessionOutlet.afterReset, MeterOutlet.afterReset, pending, contactor]
      split
      · split <;> simp [contactorFits]
      · split
        · simp [contactorFits]
        · simp [contactorFits]
    · rw [outletsRestarted_absent hf]; exact law.fits x
  refine ⟨fits, fun g x => ?_, fun x hx => ?_⟩
  · have hestop : s.estop = true := by rw [← work.estop]; exact g
    by_cases hf : s.fitted x = true
    · obtain ⟨-, hsc, -⟩ := outletsRestarted_outlet (s := s) hf
      rw [hsc, if_neg fun h => absurd (hestop.symm.trans h.2) (by decide)]; rfl
    · rw [outletsRestarted_absent hf]; exact law.stopped hestop x
  · rw [fit] at hx
    rw [outletsRestarted_absent (by rw [hx]; decide)]
    exact law.absent x hx

end

end Sys2Proof.Proofs.StationWide
end

section
/-! The stage port's events at one outlet (R93 to R100): what each makes of the outlet, and that it keeps the laws. -/

namespace Sys2Proof.Proofs.StageEvents

open Machine OutletOperations ShareLaw Stopping OutletLaws OutletLawKept StopAndRestart

section
variable {s t : State} {x : Outlet}

/-! ## A change of the stage port's record before a stop -/

theorem inSession_modSp {r : SessionRecord} (h : InSession s x r) (f : StageOutlet → StageOutlet)
    (lawful : (f (s.outlet x).sp).Lawful) (sound : (f (s.outlet x).sp).contactor ≠ .welded) : InSession (s.modSp x f) x r where
  stage := by rw [State.modSp_same]; exact lawful
  sound := by rw [State.modSp_same]; exact sound
  session := by rw [State.modSp_sc]; exact h.session
  openCheck := by rw [State.modSp_sc]; exact h.openCheck
  awaitTimer := by rw [State.modSp_sc]; exact h.awaitTimer
  idleTimer := by rw [State.modSp_sc]; exact h.idleTimer
  window := by rw [State.modSp_mu]; exact h.window
  released := by simpa using h.released

theorem closingLeft_of_opened {r : SessionRecord} (hr : (s.outlet x).sc.session = some r) (contactor : (t.outlet x).sp.contactor = .isOpen)
    (confirmed : (t.outlet x).sp.confirmed = 0) (isConfirmed : (t.outlet x).sp.isConfirmed = true) (left : Left s t x r) :
    ClosingLeft s t x r := by
  refine ⟨contactor, confirmed, isConfirmed, ?_⟩
  unfold Left at left
  split at left
  · next idle =>
    obtain ⟨hsc, hmu, hsq, hts⟩ := left
    rw [if_pos idle, hsc, hmu]
    exact ⟨rfl, rfl, hr, rfl, hsq, hts⟩
  · next busy => rw [if_neg busy]; exact left

/-- What leaving CLOSING reads: the clock, the banks, the queue, the plug and the meter record. -/
theorem closingLeft_ofSame {v : State} {r : SessionRecord} (hcf : v.cf = s.cf) (hts : v.ts = s.ts) (hsq : v.sq = s.sq)
    (plug : (v.outlet x).sp.plugPresent = (s.outlet x).sp.plugPresent) (mu : (v.outlet x).mu = (s.outlet x).mu)
    (left : ClosingLeft v t x r) : ClosingLeft s t x r := by
  obtain ⟨h1, h2, h3, rest⟩ := left
  refine ⟨h1, h2, h3, ?_⟩
  have stays : StaysIdle v x r ↔ StaysIdle s x r := by
    unfold StaysIdle State.idlePriced
    rw [plug, hts]
  split at rest
  · next idle =>
    rw [if_pos (stays.1 idle)]
    obtain ⟨g1, g2, g3, g4, g5, g6⟩ := rest
    exact ⟨g1, g2, g3, by rw [g4, mu], g5.trans hsq, g6.trans hts⟩
  · next busy =>
    rw [if_neg fun g => busy (stays.2 g)]
    exact settledAs_of_eq hcf hsq hts (by rw [mu]) rest

theorem closingLeft_modSp {r : SessionRecord} {f : StageOutlet → StageOutlet}
    (plug : (f (s.outlet x).sp).plugPresent = (s.outlet x).sp.plugPresent) (left : ClosingLeft (s.modSp x f) t x r) :
    ClosingLeft s t x r :=
  closingLeft_ofSame (by simp) (by simp) (by simp) (by rw [State.modSp_same]; exact plug) (by simp) left

/-- The ramp-down of outlet x is ended with the stage port's record changed by f: the open step is taken. -/
structure RampDownOver (s t : State) (x : Outlet) (f : StageOutlet → StageOutlet) (r : SessionRecord) : Prop where
  work : OutletWork x s t
  stageTx : t.stageTx = s.stageTx
  sp : (t.outlet x).sp = openCommanded (f (s.outlet x).sp)
  waits : (f (s.outlet x).sp).feedbackClosed = true →
    (t.outlet x).sc = { (s.outlet x).sc with step := .openStep } ∧ t.sq = s.sq ∧ t.ts = s.ts
  left : (f (s.outlet x).sp).feedbackClosed = false → ClosingLeft (s.modSp x f) t x r
  fits : Fits (t.outlet x)

/-- Every ramp-down of an outlet that obeys its laws has a session that has ended. -/
structure Ramping (s : State) (x : Outlet) (r : SessionRecord) : Prop where
  inSession : InSession s x r
  state : (s.outlet x).sc.state = .closing
  step : (s.outlet x).sc.step = .rampDown
  ended : r.endReason.isSome = true
  ordered : (s.outlet x).sp.ordered = 0
  timer : (s.outlet x).sp.orderTimer = .running
  unconfirmed : (s.outlet x).sp.isConfirmed = false
  silence : (s.outlet x).mu.silenceTimer = false

theorem ramping (law : Law s) (hstate : (s.outlet x).sc.state = .closing) (hstep : (s.outlet x).sc.step = .rampDown) :
    ∃ r, (s.outlet x).sc.session = some r ∧ Ramping s x r := by
  obtain ⟨r, hr, hend⟩ := (law.fits x).ended (.inl hstate)
  obtain ⟨ordered, timer⟩ := (law.fits x).rampDown hstate hstep
  refine ⟨r, hr, law.inSession hr (.inr hstate), hstate, hstep, hend, ordered, timer, ?_, ?_⟩
  · exact Bool.eq_false_iff.2 fun g => (timerFits (law.fits x).1).2 g timer
  · exact stopped_of (law.fits x).silenceTimer (by rw [hstate]; decide)

theorem openStep_over {r : SessionRecord} (h : Ramping s x r) (f : StageOutlet → StageOutlet) (lawful : (f (s.outlet x).sp).Lawful)
    (sound : (f (s.outlet x).sp).contactor ≠ .welded) (zero : (f (s.outlet x).sp).ordered = 0) :
    RampDownOver s ((s.modSp x f).openStep x) x f r := by
  have inside := inSession_modSp h.inSession f lawful sound
  have state : ((s.modSp x f).outlet x).sc.state = .closing := by rw [State.modSp_sc]; exact h.state
  have sp : ((s.modSp x f).outlet x).sp = f (s.outlet x).sp := by rw [State.modSp_same]
  have steps := openStep_stepsOpen inside state
  have fits := fits_of_stepsOpen inside state h.ended (by rw [State.modSp_mu]; exact h.silence) steps
  obtain ⟨htx, hsp, rest⟩ := steps
  rw [State.setpointsAfterZero, sp, if_pos zero] at htx
  refine ⟨(modSp_work s x f).trans (openStep_work _ x), htx.trans (by simp), by rw [hsp, sp], fun hf => ?_, fun hf => ?_, fits⟩
  · rw [sp, if_pos hf] at rest
    obtain ⟨hsc, -, hsq, hts⟩ := rest
    exact ⟨by rw [hsc, State.modSp_sc], hsq.trans (by simp), hts.trans (by simp)⟩
  · rw [sp, if_neg (by rw [hf]; decide)] at rest
    exact closingLeft_of_left inside.session (by rw [sp, hf]; decide) hsp rest

theorem endRampDown_over {r : SessionRecord} (h : Ramping s x r) (f : StageOutlet → StageOutlet) (lawful : (f (s.outlet x).sp).Lawful)
    (sound : (f (s.outlet x).sp).contactor ≠ .welded) (zero : (f (s.outlet x).sp).ordered = 0) :
    RampDownOver s ((s.modSp x f).endRampDown x) x f r := by
  have shape : (s.modSp x f).endRampDown x = (s.modSp x f).openStep x := by
    unfold State.endRampDown State.inRampDown
    rw [if_pos (by simp [h.state, h.step])]
  rw [shape]
  exact openStep_over h f lawful sound zero

theorem law_of_over (law : Law s) {r : SessionRecord} {f : StageOutlet → StageOutlet} (hstate : (s.outlet x).sc.state = .closing)
    (h : RampDownOver s t x f r) : Law t := law.ofWorkInUse h.work (by rw [hstate]; decide) h.fits

/-- A contactor whose order of 0 stands, after the open that SC commands. -/
theorem openCommanded_of_zero {o : StageOutlet} (h : o.ordered = 0) : openCommanded o =
    if o.feedbackClosed = true then { o with contactor := .openWait, driveClosed := false, contactorTimer := true, pendingClose := false }
    else { o with
      contactor := .isOpen, driveClosed := false, contactorTimer := false, confirmed := 0, isConfirmed := true
      orderTimer := if o.orderTimer = .expired then .expired else .stopped } := by
  unfold openCommanded
  rw [orderedZero_of_zero h]

/-! ## SETTLED (R93) -/

/-- The ceiling record with the order confirmed. -/
def settledPort (value : BitVec 16) (o : StageOutlet) : StageOutlet :=
  { o with confirmed := value.toNat, isConfirmed := true, orderTimer := if o.orderTimer = .expired then .expired else .stopped }

theorem settledPort_lawful {o : StageOutlet} (value : BitVec 16) (h : o.Lawful) : (settledPort value o).Lawful := by
  obtain ⟨h1, h2, h3, h4, h5, -, -⟩ := h
  refine ⟨h1, h2, h3, h4, h5, by simp [settledPort], fun _ => ?_⟩
  simp only [settledPort]
  split <;> decide

theorem exec_settled_unmatched {value : BitVec 16} (h : ¬ (s.fitted x = true ∧ value.toNat = (s.outlet x).sp.ordered ∧
    (s.outlet x).sp.isConfirmed = false)) : exec (.settled x value) s = .next s := if_neg h

theorem exec_settled_matched {value : BitVec 16} (h : s.fitted x = true ∧ value.toNat = (s.outlet x).sp.ordered ∧
    (s.outlet x).sp.isConfirmed = false) : exec (.settled x value) s = .next ((s.modSp x (settledPort value)).endRampDown x) := by
  have same : (fun o : StageOutlet => { o with
      confirmed := value.toNat, isConfirmed := true, orderTimer := o.orderTimer.onConfirmation }) = settledPort value := by
    funext o; rw [OrderTimer.onConfirmation_eq]; rfl
  rw [← same]
  exact if_pos h

theorem endRampDown_modSp_elsewhere (f : StageOutlet → StageOutlet)
    (h : (s.outlet x).sc.state ≠ .closing ∨ (s.outlet x).sc.step ≠ .rampDown) : (s.modSp x f).endRampDown x = s.modSp x f :=
  endRampDown_elsewhere (by rw [State.modSp_sc]; exact h)

/-- A change of the stage port's record alone, outside a ramp-down. -/
theorem law_modSp (law : Law s) (f : StageOutlet → StageOutlet) (lawful : (f (s.outlet x).sp).Lawful)
    (h : (s.outlet x).sc.state ≠ .closing ∨ (s.outlet x).sc.step ≠ .rampDown)
    (contactor : (f (s.outlet x).sp).contactor = (s.outlet x).sp.contactor := by rfl)
    (pending : (f (s.outlet x).sp).pendingClose = (s.outlet x).sp.pendingClose := by rfl) : Law (s.modSp x f) :=
  law_of_alike law (modSp_work s x f)
    { contactor := by rw [State.modSp_same]; exact contactor, pendingClose := by rw [State.modSp_same]; exact pending }
    (by rw [State.modSp_same]; exact lawful) fun h1 h2 => absurd h2 (h.resolve_left fun g => g h1)

theorem law_settled (law : Law s) (value : BitVec 16) : ∃ t, exec (.settled x value) s = .next t ∧ Law t := by
  by_cases h : s.fitted x = true ∧ value.toNat = (s.outlet x).sp.ordered ∧ (s.outlet x).sp.isConfirmed = false
  · refine ⟨_, exec_settled_matched h, ?_⟩
    have lawful := settledPort_lawful value (law.fits x).1
    by_cases hc : (s.outlet x).sc.state = .closing ∧ (s.outlet x).sc.step = .rampDown
    · obtain ⟨r, -, hramp⟩ := ramping law hc.1 hc.2
      exact law_of_over law hc.1 (endRampDown_over hramp _ lawful hramp.inSession.sound hramp.ordered)
    · rw [endRampDown_modSp_elsewhere _ (not_and_or.1 hc)]
      exact law_modSp law _ lawful (not_and_or.1 hc)
  · exact ⟨s, exec_settled_unmatched h, law⟩

/-- Settles O13: a matching SETTLED confirms the order, and the ramp-down is over. -/
theorem stageMessages : Obligations.StageMessages := by
  intro s x value
  refine ⟨fun _ => rfl, fun h => exec_settled_unmatched ?_, fun hf hv hc => ⟨fun h => ?_, fun law hstate hstep r hr => ?_⟩⟩
  · rintro ⟨h1, h2, h3⟩
    obtain h | h | h := h
    · rw [h1] at h; cases h
    · exact h h2
    · rw [h3] at h; cases h
  · rw [exec_settled_matched ⟨hf, hv, hc⟩, endRampDown_modSp_elsewhere _ h]; rfl
  · have laws := (outletLaw_iff s).1 law
    obtain ⟨r', hr', hramp⟩ := ramping laws hstate hstep
    rw [hr] at hr'
    cases hr'
    have over_ := endRampDown_over hramp (settledPort value) (settledPort_lawful value (laws.fits x).1) hramp.inSession.sound hramp.ordered
    have zero : value.toNat = 0 := hv.trans hramp.ordered
    have sp := over_.sp
    rw [openCommanded_of_zero (o := settledPort value (s.outlet x).sp) hramp.ordered] at sp
    have timer : (settledPort value (s.outlet x).sp).orderTimer = .stopped := by simp [settledPort, hramp.timer]
    refine ⟨_, exec_settled_matched ⟨hf, hv, hc⟩, over_.work.onlyOutlet, over_.stageTx, ?_⟩
    by_cases hclosed : (s.outlet x).sp.feedbackClosed = true
    · rw [if_pos (show (settledPort value (s.outlet x).sp).feedbackClosed = true from hclosed)] at sp
      rw [if_pos hclosed, sp]
      exact ⟨hramp.ordered, zero, rfl, timer, rfl, rfl, over_.waits hclosed⟩
    · rw [if_neg (show ¬ (settledPort value (s.outlet x).sp).feedbackClosed = true from hclosed)] at sp
      rw [if_neg hclosed]
      have left := closingLeft_modSp (f := settledPort value) rfl (over_.left (Bool.eq_false_iff.2 hclosed))
      refine ⟨by rw [sp]; exact hramp.ordered, by rw [sp], by rw [sp], ?_, by rw [sp], left⟩
      rw [sp, timer]; rfl

/-! ## The order timer (R94) -/

/-- The ceiling record with its order timer expired. -/
def expiredPort (o : StageOutlet) : StageOutlet := { o with orderTimer := .expired }

theorem exec_orderTimerExpiry_stopped (h : (s.outlet x).sp.orderTimer ≠ .running) : exec (.orderTimerExpiry x) s = .next s := if_neg h

theorem exec_orderTimerExpiry_running (h : (s.outlet x).sp.orderTimer = .running) : exec (.orderTimerExpiry x) s =
    .next (if (s.outlet x).sc.state.running = true then (s.modSp x expiredPort).quickStop x EndReason.stageFault
      else (s.modSp x expiredPort).endRampDown x) := by
  show execOrderTimerExpiry x s = _
  unfold execOrderTimerExpiry
  rw [if_pos h]
  dsimp only
  split <;> rfl

theorem expiredPort_lawful {o : StageOutlet} (h : o.Lawful) : (expiredPort o).Lawful := by
  obtain ⟨h1, h2, h3, h4, h5, -, -⟩ := h
  refine ⟨h1, h2, h3, h4, h5, by simp [expiredPort], by simp [expiredPort]⟩

theorem law_orderTimerExpiry (law : Law s) : ∃ t, exec (.orderTimerExpiry x) s = .next t ∧ Law t := by
  by_cases h : (s.outlet x).sp.orderTimer = .running
  · refine ⟨_, exec_orderTimerExpiry_running h, ?_⟩
    have lawful := expiredPort_lawful (law.fits x).1
    split
    · next running =>
      obtain ⟨r, hr, -⟩ := (law.fits x).running running
      have inside := inSession_modSp (law.inSession hr (.inl running)) expiredPort lawful (law.inSession hr (.inl running)).sound
      exact law.ofWorkInUse ((modSp_work s x _).trans (quickStop_work _ x _)) (not_outOfService_of_running running)
        (quickStop_spec _ inside (by rw [State.modSp_sc]; exact not_closing_of_running running)).2
    · by_cases hc : (s.outlet x).sc.state = .closing ∧ (s.outlet x).sc.step = .rampDown
      · obtain ⟨r, -, hramp⟩ := ramping law hc.1 hc.2
        exact law_of_over law hc.1 (endRampDown_over hramp _ lawful hramp.inSession.sound hramp.ordered)
      · rw [endRampDown_modSp_elsewhere _ (not_and_or.1 hc)]
        exact law_modSp law _ lawful (not_and_or.1 hc)
  · exact ⟨s, exec_orderTimerExpiry_stopped h, law⟩

/-- Settles O14: an order that expires UNCONFIRMED is a quick stop with STAGE_FAULT, or the end of the ramp-down. -/
theorem orderTimerExpiry : Obligations.OrderTimerExpiry := by
  intro s x law
  have laws := (outletLaw_iff s).1 law
  refine ⟨exec_orderTimerExpiry_stopped, fun timer u hu => ?_⟩
  have hu : u = s.modSp x expiredPort := hu
  subst hu
  have exec_ := exec_orderTimerExpiry_running timer
  have lawful := expiredPort_lawful (laws.fits x).1
  refine ⟨fun idle away => ?_, fun r running hr => ?_, fun r hstate hstep hr => ?_⟩
  · rw [exec_, if_neg (by rw [idle]; decide), endRampDown_modSp_elsewhere _ (not_and_or.1 away)]
  · rw [if_pos running] at exec_
    have inside := laws.inSession hr (.inl running)
    exact ⟨_, exec_, (quickStop_spec _ (inSession_modSp inside expiredPort lawful inside.sound)
      (by rw [State.modSp_sc]; exact not_closing_of_running running)).1⟩
  · obtain ⟨r', hr', hramp⟩ := ramping laws hstate hstep
    rw [hr] at hr'
    cases hr'
    rw [if_neg (by rw [hstate]; decide)] at exec_
    have over_ := endRampDown_over hramp expiredPort lawful hramp.inSession.sound hramp.ordered
    refine ⟨_, exec_, over_.work.onlyOutlet, over_.stageTx, ?_⟩
    by_cases hclosed : (s.outlet x).sp.feedbackClosed = true
    · have sp := over_.sp
      rw [openCommanded_of_zero (o := expiredPort (s.outlet x).sp) hramp.ordered,
        if_pos (show (expiredPort (s.outlet x).sp).feedbackClosed = true from hclosed)] at sp
      rw [if_pos hclosed, sp]
      exact ⟨rfl, rfl, over_.waits hclosed⟩
    · rw [if_neg hclosed]
      exact closingLeft_modSp (f := expiredPort) rfl (over_.left (Bool.eq_false_iff.2 hclosed))

end

end Sys2Proof.Proofs.StageEvents
end

section
/-! The contactor's feedback and its timer at one outlet (R98 to R100): what each event makes of the outlet, and that it keeps the laws. -/

namespace Sys2Proof.Proofs.ContactorEvents

open Machine OutletOperations ShareLaw Stopping OutletLaws OutletLawKept StopAndRestart StageEvents

section
variable {s t : State} {x : Outlet}

/-! ## Which outlet states a contactor state allows (R126, R138) -/

theorem states_of_closeWait (law : Law s) (h : (s.outlet x).sp.contactor = .closeWait) :
    (s.outlet x).sc.state = .connecting ∨ ((s.outlet x).sc.state = .closing ∧ (s.outlet x).sc.step = .rampDown) := by
  have fits := (law.fits x).contactor
  rw [h] at fits
  cases hs : (s.outlet x).sc.state <;> rw [hs] at fits <;> simp_all [contactorFits]

theorem states_of_closed (law : Law s) (h : (s.outlet x).sp.contactor = .closed) :
    (s.outlet x).sc.state = .energising ∨ ((s.outlet x).sc.state = .closing ∧ (s.outlet x).sc.step = .rampDown) := by
  have fits := (law.fits x).contactor
  rw [h] at fits
  cases hs : (s.outlet x).sc.state <;> rw [hs] at fits <;> simp_all [contactorFits]

theorem states_of_openWait (law : Law s) (h : (s.outlet x).sp.contactor = .openWait) :
    ((s.outlet x).sc.state = .connecting ∧ (s.outlet x).sp.pendingClose = true) ∨
    (((s.outlet x).sc.state = .suspended ∨ (s.outlet x).sc.state = .closing ∨ (s.outlet x).sc.state = .outOfService) ∧
      (s.outlet x).sp.pendingClose = false) := by
  have fits := (law.fits x).contactor
  rw [h] at fits
  cases hs : (s.outlet x).sc.state <;> rw [hs] at fits <;> simp_all [contactorFits]

theorem outOfService_of_welded (law : Law s) (h : (s.outlet x).sp.contactor = .welded) : (s.outlet x).sc.state = .outOfService := by
  by_contra away
  exact (law.fits x).notWelded away h

/-! ## A weld suspicion (R100, R141) -/

theorem welded_lawful {o : StageOutlet} (h : o.Lawful) (hc : o.contactor = .welded) (level : Bool) :
    StageOutlet.Lawful { o with feedbackClosed := level } := by
  obtain ⟨h1, h2, h3, -, -, h6, h7⟩ := h
  exact ⟨h1, h2, h3, by simp [hc], by simp [hc], h6, h7⟩

/-- Work that leaves an outlet suspected of a weld keeps the law. -/
theorem law_of_welded (law : Law s) (work : OutletWork x s t) {v : State} (htimer : TimerFits (v.outlet x).sp)
    (hsession : (s.outlet x).sc.session = none → (t.outlet x).sc.session = none) (h : Welded v t x) : Law t :=
  law.ofWork work (fits_of_welded htimer h) fun _ _ => ⟨by rw [h.sc]; rfl, hsession⟩

/-! ## FEEDBACK_CLOSED (R98, R100) -/

/-- The stage port's record with the feedback read closed. -/
def feedbackShut (o : StageOutlet) : StageOutlet := { o with feedbackClosed := true }

/-- The stage port's record of a close completed. -/
def closedPort (o : StageOutlet) : StageOutlet := { o with feedbackClosed := true, contactor := .closed, contactorTimer := false }

theorem exec_feedbackClosed_ignored (h : s.fitted x = false ∨ (s.outlet x).sp.feedbackClosed = true) :
    exec (.feedbackClosed x) s = .next s := by
  refine if_neg fun g => ?_
  obtain h | h := h
  · rw [h] at g; exact absurd g.1 (by decide)
  · rw [h] at g; exact absurd g.2 (by decide)

theorem exec_feedbackClosed (hf : s.fitted x = true) (h : (s.outlet x).sp.feedbackClosed = false) : exec (.feedbackClosed x) s =
    match (s.outlet x).sp.contactor with
    | .closeWait => .next ((s.modSp x closedPort).contactorClosed x)
    | .isOpen => .next ((s.modSp x feedbackShut).weld x)
    | .closed => .next (s.modSp x feedbackShut)
    | .openWait => .next (s.modSp x feedbackShut)
    | .welded => .next (s.modSp x feedbackShut) := by
  show execFeedbackClosed x s = _
  unfold execFeedbackClosed
  rw [if_pos ⟨hf, h⟩]
  dsimp only
  cases hc : (s.outlet x).sp.contactor <;> first | rfl | (rw [modSp_modSp]; rfl)

theorem closedPort_lawful {o : StageOutlet} (h : o.Lawful) (hc : o.contactor = .closeWait) : (closedPort o).Lawful := by
  have pending := pendingClose_of_not_openWait h (by rw [hc]; decide)
  obtain ⟨drive, -, -, -, -, h6, h7⟩ := h
  exact ⟨by simp [closedPort, drive, hc], by simp [closedPort], by simp [closedPort, pending], by simp [closedPort], by simp [closedPort],
    h6, h7⟩

/-- R132: CONNECTING goes to ENERGISING as its contactor closes. -/
theorem contactorClosed_connecting (h : (s.outlet x).sc.state = .connecting) (f : StageOutlet → StageOutlet) :
    (((s.modSp x f).contactorClosed x).outlet x).sc = { (s.outlet x).sc with state := .energising } ∧
    (((s.modSp x f).contactorClosed x).outlet x).mu = { (s.outlet x).mu with silenceTimer := true } ∧
    (((s.modSp x f).contactorClosed x).outlet x).sp = f (s.outlet x).sp ∧
    ((s.modSp x f).contactorClosed x).isPending (Cause.ofOutlet x) = true ∧
    ((s.modSp x f).contactorClosed x).stageTx = s.stageTx ∧ ((s.modSp x f).contactorClosed x).ts = s.ts ∧
    ((s.modSp x f).contactorClosed x).sq = s.sq ∧ OutletWork x s ((s.modSp x f).contactorClosed x) := by
  have moved : ((s.modSp x f).outlet x).sc.state ≠ .energising := by rw [State.modSp_sc, h]; decide
  have shape : (s.modSp x f).contactorClosed x = (s.modSp x f).enter x .energising := by
    unfold State.contactorClosed; rw [if_pos (by rw [State.modSp_sc]; exact h)]
  rw [shape]
  refine ⟨by simp, ?_, by simp, State.enter_pending _ x _ moved, by simp, by simp, by simp, (modSp_work s x f).trans (enter_work _ x _)⟩
  rw [enter_mu, if_neg moved, State.modSp_mu]; rfl

theorem contactorClosed_elsewhere (h : (s.outlet x).sc.state ≠ .connecting) (f : StageOutlet → StageOutlet) :
    (s.modSp x f).contactorClosed x = s.modSp x f := if_neg (by rw [State.modSp_sc]; exact h)

theorem law_feedbackClosed (law : Law s) : ∃ t, exec (.feedbackClosed x) s = .next t ∧ Law t := by
  by_cases hx : s.fitted x = false ∨ (s.outlet x).sp.feedbackClosed = true
  · exact ⟨s, exec_feedbackClosed_ignored hx, law⟩
  obtain ⟨hf, h⟩ := not_or.1 hx
  have h := Bool.eq_false_iff.2 h
  rw [exec_feedbackClosed (Bool.eq_true_of_not_eq_false hf) h]
  cases hc : (s.outlet x).sp.contactor with
  | closeWait =>
    refine ⟨_, rfl, ?_⟩
    have lawful := closedPort_lawful (law.fits x).1 hc
    obtain hs | ⟨hs, hstep⟩ := states_of_closeWait law hc
    · obtain ⟨hsc, hmu, hsp, -, -, -, -, work⟩ := contactorClosed_connecting hs closedPort
      refine law.ofWorkInUse work (by rw [hs]; decide) ⟨by rw [hsp]; exact lawful, ?_⟩
      obtain ⟨r, hr, hend⟩ := (law.fits x).running (by rw [hs]; rfl)
      have inside := law.inSession hr (.inl (by rw [hs]; rfl))
      simp only [OutletRecord.Lawful, hsc, hmu, hsp, closedPort, hr, inside.openCheck, inside.awaitTimer, inside.idleTimer, inside.window]
      simp [contactorFits, hend]
    · rw [contactorClosed_elsewhere (by rw [hs]; decide)]
      refine law.ofWorkInUse (modSp_work s x _) (by rw [hs]; decide) ⟨by rw [State.modSp_same]; exact lawful, ?_⟩
      obtain ⟨-, h2, h3, h4, h5, h6, h7, h8, h9, h10, h11⟩ := (law.fits x).2
      simp only [OutletRecord.Lawful, State.modSp_same, closedPort] at *
      refine ⟨?_, h2, h3, h4, ?_, h6, h7, h8, h9, h10, h11⟩
      · rw [hs, hstep]; rfl
      · rw [hs]; exact fun g => absurd g (by decide)
  | isOpen =>
    have quiet : (s.outlet x).mu.silenceTimer = false := by
      refine stopped_of (law.fits x).silenceTimer fun g => ?_
      have fits := (law.fits x).contactor
      rw [g, hc] at fits
      cases fits
    have away : (s.outlet x).sc.state ≠ .energising := fun g => absurd ((law.fits x).silenceTimer.2 g) (by rw [quiet]; decide)
    have welded := weld_spec (s := s.modSp x feedbackShut) (x := x) (by rw [State.modSp_sc]; exact away) (by rw [State.modSp_mu]; exact quiet)
    refine ⟨_, rfl, law_of_welded law ((modSp_work s x _).trans (weld_work _ x)) ?_ (fun _ => by rw [welded.sc]; rfl) welded⟩
    have timer := timerFits (law.fits x).1
    rw [State.modSp_same]; exact timer
  | closed => exact absurd (feedback_closed (law.fits x).1 (.inl hc)) (by rw [h]; decide)
  | openWait => exact absurd (feedback_closed (law.fits x).1 (.inr hc)) (by rw [h]; decide)
  | welded =>
    have hs := outOfService_of_welded law hc
    exact ⟨_, rfl, law_modSp law _ (welded_lawful (law.fits x).1 hc true) (.inl (by rw [hs]; decide))⟩

/-- Settles O15: a closed feedback completes a close, and in OPEN it is a weld suspicion. -/
theorem feedbackClosed : Obligations.FeedbackClosed := by
  intro s x law
  have laws := (outletLaw_iff s).1 law
  refine ⟨exec_feedbackClosed_ignored, fun hf h => ?_⟩
  have exec_ := exec_feedbackClosed hf h
  refine ⟨fun hc => ?_, fun hc => ?_, fun hc => ?_⟩
  · rw [exec_, hc]; rfl
  · rw [hc] at exec_
    by_cases hs : (s.outlet x).sc.state = .connecting
    · obtain ⟨hsc, hmu, hsp, pending, htx, hts, hsq, work⟩ := contactorClosed_connecting hs closedPort
      refine ⟨_, exec_, work.onlyOutlet, htx, hts, hsq, hsp, ?_⟩
      rw [if_pos hs, hsc, hmu]
      exact ⟨rfl, rfl, pending⟩
    · rw [contactorClosed_elsewhere hs] at exec_
      refine ⟨_, exec_, (modSp_work s x _).onlyOutlet, by simp, by simp, by simp, by rw [State.modSp_same]; rfl, ?_⟩
      rw [if_neg hs, State.modSp_sc, State.modSp_same]
      exact ⟨rfl, modSp_const s x closedPort⟩
  · rw [hc] at exec_
    have quiet : (s.outlet x).mu.silenceTimer = false := by
      refine stopped_of (laws.fits x).silenceTimer fun g => ?_
      have fits := (laws.fits x).contactor
      rw [g, hc] at fits
      cases fits
    have away : (s.outlet x).sc.state ≠ .energising := fun g => absurd ((laws.fits x).silenceTimer.2 g) (by rw [quiet]; decide)
    obtain ⟨-, hsp, hsc, -, settled⟩ := weld_spec (s := s.modSp x feedbackShut) (x := x) (by rw [State.modSp_sc]; exact away)
      (by rw [State.modSp_mu]; exact quiet)
    rw [State.modSp_same] at hsp
    refine ⟨_, exec_, ((modSp_work s x _).trans (weld_work _ x)).onlyOutlet, by rw [hsp]; rfl, by rw [hsp]; rfl, by rw [hsp]; rfl,
      by rw [hsp]; rfl, by rw [hsc]; rfl, by rw [hsc]; rfl, fun r hr => ?_⟩
    have := settled r (by rw [State.modSp_sc]; exact hr)
    rw [State.modSp_sc] at this
    exact settledAs_of_eq (by simp) (by simp) (by simp) (by simp) this

/-! ## FEEDBACK_OPEN (R99, R100) -/

/-- The stage port's record with the feedback read open. -/
def feedbackCut (o : StageOutlet) : StageOutlet := { o with feedbackClosed := false }

/-- The stage port's record of an open confirmed by the feedback. -/
def openedPort (o : StageOutlet) : StageOutlet := confirmedOpen (feedbackCut o)

theorem exec_feedbackOpen_ignored (h : s.fitted x = false ∨ (s.outlet x).sp.feedbackClosed = false) :
    exec (.feedbackOpen x) s = .next s := by
  refine if_neg fun g => ?_
  obtain h | h := h
  · rw [h] at g; exact absurd g.1 (by decide)
  · rw [h] at g; exact absurd g.2 (by decide)

theorem exec_feedbackOpen (hf : s.fitted x = true) (h : (s.outlet x).sp.feedbackClosed = true) : exec (.feedbackOpen x) s =
    match (s.outlet x).sp.contactor with
    | .openWait => .next ((s.modSp x feedbackCut).openConfirmed x)
    | .closed => .next ((((s.modSp x feedbackCut).order x 0).openConfirmed x).contactorDrop x)
    | .isOpen => .next (s.modSp x feedbackCut)
    | .closeWait => .next (s.modSp x feedbackCut)
    | .welded => .next (s.modSp x feedbackCut) := by
  show execFeedbackOpen x s = _
  unfold execFeedbackOpen
  rw [if_pos ⟨hf, h⟩]
  dsimp only
  cases hc : (s.outlet x).sp.contactor <;> rfl

theorem openedPort_lawful {o : StageOutlet} (h : o.Lawful) : (openedPort o).Lawful := by
  have timer := timerFits h
  exact confirmedOpen_lawful (o := feedbackCut o) timer rfl

/-- A close commanded from OPEN (R96). -/
theorem closeWait_lawful {o : StageOutlet} (h : o.Lawful) (hc : o.contactor = .isOpen) :
    StageOutlet.Lawful { o with contactor := .closeWait, driveClosed := true, contactorTimer := true } := by
  have pending := pendingClose_of_not_openWait h (by rw [hc]; decide)
  have feedback := feedback_open h (.inl hc)
  obtain ⟨-, -, -, -, -, h6, h7⟩ := h
  exact ⟨by simp, by simp, by simp [pending], fun _ => feedback, by simp, h6, h7⟩

theorem openedPort_lines (o : StageOutlet) : (openedPort o).contactor = .isOpen ∧ (openedPort o).confirmed = 0 ∧
    (openedPort o).pendingClose = false ∧ (openedPort o).driveClosed = false ∧ (openedPort o).feedbackClosed = false ∧
    (openedPort o).ordered = o.ordered ∧ (openedPort o).plugPresent = o.plugPresent := ⟨rfl, rfl, rfl, rfl, rfl, rfl, rfl⟩

theorem openedPort_confirmed {o : StageOutlet} (h : o.ordered = 0) : (openedPort o).isConfirmed = true := by
  simp [openedPort, confirmedOpen, feedbackCut, StageOutlet.confirmOpen, h]

/-- What an open confirmed by the feedback makes of an outlet whose contactor opens. -/
structure OpenConfirmed (s t : State) (x : Outlet) : Prop where
  work : OutletWork x s t
  stageTx : t.stageTx = s.stageTx
  ordered : (t.outlet x).sp.ordered = (s.outlet x).sp.ordered
  confirmed : (t.outlet x).sp.confirmed = 0
  isConfirmed : (s.outlet x).sp.ordered = 0 → (t.outlet x).sp.isConfirmed = true
  connecting : (s.outlet x).sc.state = .connecting →
    (t.outlet x).sp.contactor = .closeWait ∧ (t.outlet x).sp.driveClosed = true ∧ (t.outlet x).sc = (s.outlet x).sc
  suspended : (s.outlet x).sc.state = .suspended → (t.outlet x).sp.contactor = .isOpen ∧ (t.outlet x).sc = (s.outlet x).sc
  closing : (s.outlet x).sc.state = .closing → ∀ r, (s.outlet x).sc.session = some r → (s.outlet x).sp.ordered = 0 → ClosingLeft s t x r
  outOfService : (s.outlet x).sc.state = .outOfService → (t.outlet x).sp.contactor = .isOpen ∧
    (∀ r, (s.outlet x).sc.session = some r → SettledAs s t x r (if s.estop = true then .outOfService else .vacant)) ∧
    ((s.outlet x).sc.session = none →
      (t.outlet x).sc = { (s.outlet x).sc with state := if s.estop = true then .outOfService else .vacant })
  law : Law t

theorem modSp_openedPort : (s.modSp x feedbackCut).modSp x confirmedOpen = s.modSp x openedPort := modSp_modSp s x _ _

/-- R96 and R99: the close that was pending is carried out. -/
theorem openConfirmed_connecting (law : Law s) (hs : (s.outlet x).sc.state = .connecting) (hp : (s.outlet x).sp.pendingClose = true) :
    OpenConfirmed s ((s.modSp x feedbackCut).openConfirmed x) x := by
  have shape : (s.modSp x feedbackCut).openConfirmed x = (s.modSp x openedPort).commandClose x := by
    rw [openConfirmed_waiting (by rw [State.modSp_sc, hs]; decide) (by rw [State.modSp_sc, hs]; decide), modSp_openedPort, State.modSp_same]
    exact if_pos hp
  have sp := ((s.modSp x openedPort).commandClose_spec x).1 (by rw [State.modSp_same]; rfl)
  rw [State.modSp_same] at sp
  have sc : (((s.modSp x openedPort).commandClose x).outlet x).sc = (s.outlet x).sc := by simp
  have mu : (((s.modSp x openedPort).commandClose x).outlet x).mu = (s.outlet x).mu := by simp
  have work := (modSp_work s x openedPort).trans (commandClose_work _ x)
  rw [shape]
  refine ⟨work, by simp, by rw [sp]; rfl, by rw [sp]; rfl, fun zero => by rw [sp]; exact openedPort_confirmed zero, fun _ => ⟨by rw [sp], by rw [sp], sc⟩,
    fun g => absurd (hs.symm.trans g) (by decide), fun g => absurd (hs.symm.trans g) (by decide),
    fun g => absurd (hs.symm.trans g) (by decide), law.ofWorkInUse work (by rw [hs]; decide) ⟨?_, ?_⟩⟩
  · rw [sp]
    exact closeWait_lawful (openedPort_lawful (law.fits x).1) rfl
  · obtain ⟨-, h2, h3, h4, h5, h6, h7, h8, h9, h10, -⟩ := (law.fits x).2
    unfold OutletRecord.Lawful
    rw [sc, mu, sp, hs] at *
    exact ⟨rfl, h2, h3, h4, by simp, h6, h7, h8, h9, h10, by simp⟩

theorem openConfirmed_suspended (law : Law s) (hs : (s.outlet x).sc.state = .suspended) (hp : (s.outlet x).sp.pendingClose = false) :
    OpenConfirmed s ((s.modSp x feedbackCut).openConfirmed x) x := by
  have shape : (s.modSp x feedbackCut).openConfirmed x = s.modSp x openedPort := by
    rw [openConfirmed_waiting (by rw [State.modSp_sc, hs]; decide) (by rw [State.modSp_sc, hs]; decide), modSp_openedPort, State.modSp_same]
    exact if_neg (by rw [show (feedbackCut (s.outlet x).sp).pendingClose = _ from hp]; decide)
  rw [shape]
  have work := modSp_work s x openedPort
  refine ⟨work, by simp, by rw [State.modSp_same]; rfl, by rw [State.modSp_same]; rfl, fun zero => by rw [State.modSp_same]; exact openedPort_confirmed zero,
    fun g => absurd (hs.symm.trans g) (by decide), fun _ => ⟨by rw [State.modSp_same]; rfl, by simp⟩,
    fun g => absurd (hs.symm.trans g) (by decide), fun g => absurd (hs.symm.trans g) (by decide),
    law.ofWorkInUse work (by rw [hs]; decide) ⟨by rw [State.modSp_same]; exact openedPort_lawful (law.fits x).1, ?_⟩⟩
  obtain ⟨-, h2, h3, h4, h5, h6, h7, h8, h9, h10, -⟩ := (law.fits x).2
  unfold OutletRecord.Lawful
  rw [State.modSp_same]
  dsimp only
  rw [hs] at *
  exact ⟨rfl, h2, h3, h4, by simp, h6, h7, h8, h9, h10, by simp⟩

/-- An outlet that has left CLOSING at its open step, with its contactor OPEN, obeys its laws. -/
theorem fits_of_left {v : State} {r : SessionRecord} (inside : InSession v x r) (hended : r.endReason.isSome = true) (left : Left v t x r) (stage : (t.outlet x).sp.Lawful)
    (opened : (t.outlet x).sp.contactor = .isOpen) : Fits (t.outlet x) := by
  unfold Left at left
  split at left
  · obtain ⟨hsc, hmu, -, -⟩ := left
    refine ⟨stage, ?_⟩
    simp only [OutletRecord.Lawful, hsc, hmu, opened, inside.session, inside.openCheck, inside.awaitTimer, inside.window]
    simp [contactorFits, hended]
  · exact fits_of_settledAs left stage (.inl ⟨rfl, opened⟩)

theorem openConfirmed_closing (law : Law s) (hs : (s.outlet x).sc.state = .closing) (hp : (s.outlet x).sp.pendingClose = false) :
    OpenConfirmed s ((s.modSp x feedbackCut).openConfirmed x) x := by
  have sp : ((s.modSp x openedPort).outlet x).sp = openedPort (s.outlet x).sp := by rw [State.modSp_same]
  have cutSp : ((s.modSp x feedbackCut).outlet x).sp = feedbackCut (s.outlet x).sp := by rw [State.modSp_same]
  have lawful := openedPort_lawful (law.fits x).1
  have work := (modSp_work s x feedbackCut).trans (openConfirmed_work _ x)
  by_cases hstep : (s.outlet x).sc.step = .openStep
  · obtain ⟨r, hr, hend⟩ := (law.fits x).ended (.inl hs)
    have inside := inSession_modSp (law.inSession hr (.inr hs)) openedPort lawful (by rw [(openedPort_lines _).1]; decide)
    obtain ⟨left, shape⟩ := openConfirmed_openStep (s := s.modSp x feedbackCut) (x := x) (by rw [State.modSp_sc]; exact hs)
      (by rw [State.modSp_sc]; exact hstep) (by rw [cutSp]; exact hp) (by rw [State.modSp_sc]; exact hr)
      (by simpa using (law.inSession hr (.inr hs)).released)
    rw [modSp_openedPort] at left shape
    have tsp : (((s.modSp x feedbackCut).openConfirmed x).outlet x).sp = openedPort (s.outlet x).sp := by
      rw [shape, State.leaveClosing_sp, sp]
    refine ⟨work, by rw [shape]; simp, by rw [tsp]; rfl, by rw [tsp]; rfl, fun zero => by rw [tsp]; exact openedPort_confirmed zero,
      fun g => absurd (hs.symm.trans g) (by decide), fun g => absurd (hs.symm.trans g) (by decide), fun _ r' hr' zero => ?_,
      fun g => absurd (hs.symm.trans g) (by decide), law.ofWorkInUse work (by rw [hs]; decide) ?_⟩
    · rw [hr] at hr'
      cases hr'
      exact closingLeft_modSp (f := openedPort) rfl (closingLeft_of_opened inside.session (by rw [tsp]; rfl) (by rw [tsp]; rfl)
        (by rw [tsp]; exact openedPort_confirmed zero) left)
    · exact fits_of_left inside hend left (by rw [tsp]; exact lawful) (by rw [tsp]; rfl)
  · have hstep : (s.outlet x).sc.step = .rampDown := by cases h : (s.outlet x).sc.step <;> first | rfl | exact absurd h hstep
    obtain ⟨r, hr, hramp⟩ := ramping law hs hstep
    have shape : (s.modSp x feedbackCut).openConfirmed x = (s.modSp x openedPort).openStep x := by
      rw [openConfirmed_rampDown (by rw [State.modSp_sc]; exact hs) (by rw [State.modSp_sc]; exact hstep) (by rw [cutSp]; exact hp)
        (by rw [cutSp]; exact hramp.unconfirmed) (by rw [cutSp]; exact hramp.ordered), modSp_openedPort]
    have over_ := openStep_over hramp openedPort lawful (by rw [(openedPort_lines _).1]; decide) hramp.ordered
    rw [← shape] at over_
    have left := over_.left rfl
    obtain ⟨-, confirmed, isConfirmed, -⟩ := left
    have ordered : (((s.modSp x feedbackCut).openConfirmed x).outlet x).sp.ordered = (s.outlet x).sp.ordered := by
      rw [over_.sp, (openCommanded_lines _).2.2.1, hramp.ordered]
    refine ⟨work, over_.stageTx, ordered, confirmed, fun _ => isConfirmed, fun g => absurd (hs.symm.trans g) (by decide),
      fun g => absurd (hs.symm.trans g) (by decide), fun _ r' hr' _ => ?_, fun g => absurd (hs.symm.trans g) (by decide),
      law_of_over law hs over_⟩
    rw [hr] at hr'
    cases hr'
    exact closingLeft_modSp (f := openedPort) rfl (over_.left rfl)

theorem openConfirmed_heldOut (law : Law s) (hf : s.fitted x = true) (hs : (s.outlet x).sc.state = .outOfService)
    (hp : (s.outlet x).sp.pendingClose = false) : OpenConfirmed s ((s.modSp x feedbackCut).openConfirmed x) x := by
  have cutSp : ((s.modSp x feedbackCut).outlet x).sp = feedbackCut (s.outlet x).sp := by rw [State.modSp_same]
  have sp : ((s.modSp x openedPort).outlet x).sp = openedPort (s.outlet x).sp := by rw [State.modSp_same]
  have sc : ((s.modSp x openedPort).outlet x).sc = (s.outlet x).sc := by simp
  have mu : ((s.modSp x openedPort).outlet x).mu = (s.outlet x).mu := by simp
  have lawful := openedPort_lawful (law.fits x).1
  have quiet := stopped_of (law.fits x).silenceTimer (by rw [hs]; decide)
  have fit := law.fits x
  obtain ⟨-, present, -⟩ := fit.outOfService hs
  have work := (modSp_work s x feedbackCut).trans (openConfirmed_work _ x)
  have shape := openConfirmed_outOfService (s := s.modSp x feedbackCut) (x := x) (by rw [State.modSp_sc]; exact hs)
    (by rw [cutSp]; exact hp)
  rw [modSp_openedPort, State.modSp_sc, show (s.modSp x feedbackCut).estop = s.estop by simp] at shape
  rw [shape] at work ⊢
  by_cases check : (s.outlet x).sc.openCheck = true
  · rw [if_pos check] at work ⊢
    rw [check] at present
    obtain ⟨r, hr⟩ := Option.isSome_iff_exists.1 present
    have settled : SettledAs s ((s.modSp x openedPort).settle x) x r (if s.estop = true then .outOfService else .vacant) := by
      have estop : (s.modSp x openedPort).estop = s.estop := by simp
      rw [State.settle, estop]
      refine settledAs_of_eq (by simp) (by simp) (by simp) (by simp)
        (settleAndEnter_settledAs (by rw [sc]; exact hr) ?_ (.inr (by rw [mu]; exact quiet)))
      split <;> decide
    have tsp : (((s.modSp x openedPort).settle x).outlet x).sp = openedPort (s.outlet x).sp := by rw [State.settle_sp, sp]
    refine ⟨work, by simp, by rw [tsp]; rfl, by rw [tsp]; rfl, fun zero => by rw [tsp]; exact openedPort_confirmed zero,
      fun g => absurd (hs.symm.trans g) (by decide), fun g => absurd (hs.symm.trans g) (by decide),
      fun g => absurd (hs.symm.trans g) (by decide), fun _ => ⟨by rw [tsp]; rfl, fun r' hr' => ?_, fun g => ?_⟩,
      law.ofWork work ?_ fun _ g => ?_⟩
    · rw [hr] at hr'; cases hr'; exact settled
    · rw [hr] at g; cases g
    · refine fits_of_settledAs settled (by rw [tsp]; exact lawful) ?_
      split
      · exact .inr ⟨rfl, by rw [tsp]; rfl⟩
      · exact .inl ⟨rfl, by rw [tsp]; rfl⟩
    · obtain ⟨-, -, hsc, -⟩ := settled
      obtain g | g := g
      · rw [hsc, if_pos g]; exact ⟨rfl, fun _ => rfl⟩
      · rw [hf] at g; cases g
  · rw [if_neg check] at work ⊢
    rw [Bool.eq_false_iff.2 check] at present
    have none : (s.outlet x).sc.session = none := Option.not_isSome_iff_eq_none.1 (by rw [present]; decide)
    have window := fit.window
    rw [none] at window
    by_cases hestop : s.estop = true
    · rw [if_pos hestop] at work ⊢
      have tsp := sp
      refine ⟨work, by simp, by rw [tsp]; rfl, by rw [tsp]; rfl, fun zero => by rw [tsp]; exact openedPort_confirmed zero,
        fun g => absurd (hs.symm.trans g) (by decide), fun g => absurd (hs.symm.trans g) (by decide),
        fun g => absurd (hs.symm.trans g) (by decide),
        fun _ => ⟨by rw [tsp]; rfl, fun r' hr' => absurd (none.symm.trans hr') (by simp), fun _ => ?_⟩,
        law.ofWork work ⟨by rw [tsp]; exact lawful, ?_⟩ fun _ _ => ?_⟩
      · rw [sc, if_pos hestop, ← hs]
      · simp only [OutletRecord.Lawful, sc, mu, tsp, hs, none, window, quiet, Bool.eq_false_iff.2 check,
          stopped_of fit.awaitTimer (by rw [hs]; decide), stopped_of fit.idleTimer (by rw [hs]; decide)]
        simp [contactorFits, (openedPort_lines _).1]
      · rw [sc]; exact ⟨hs, id⟩
    · rw [if_neg hestop] at work ⊢
      have tsp : (((s.modSp x openedPort).enter x .vacant).outlet x).sp = openedPort (s.outlet x).sp := by rw [State.enter_sp, sp]
      have tsc : (((s.modSp x openedPort).enter x .vacant).outlet x).sc = { (s.outlet x).sc with state := .vacant } := by rw [enter_sc, sc]
      have tmu : (((s.modSp x openedPort).enter x .vacant).outlet x).mu = (s.outlet x).mu := by
        rw [enter_mu, sc, if_neg (by rw [hs]; decide), mu]
        show { (s.outlet x).mu with silenceTimer := false } = _
        rw [← quiet]
      refine ⟨work, by simp, by rw [tsp]; rfl, by rw [tsp]; rfl, fun zero => by rw [tsp]; exact openedPort_confirmed zero,
        fun g => absurd (hs.symm.trans g) (by decide), fun g => absurd (hs.symm.trans g) (by decide),
        fun g => absurd (hs.symm.trans g) (by decide),
        fun _ => ⟨by rw [tsp]; rfl, fun r' hr' => absurd (none.symm.trans hr') (by simp), fun _ => ?_⟩,
        law.ofWork work ⟨by rw [tsp]; exact lawful, ?_⟩ fun _ g => ?_⟩
      · rw [tsc, if_neg hestop]
      · simp only [OutletRecord.Lawful, tsc, tmu, tsp, none, window, quiet, Bool.eq_false_iff.2 check,
          stopped_of fit.awaitTimer (by rw [hs]; decide), stopped_of fit.idleTimer (by rw [hs]; decide)]
        simp [contactorFits, (openedPort_lines _).1]
      · obtain g | g := g
        · exact absurd g hestop
        · rw [hf] at g; cases g

theorem openWait_confirmed (law : Law s) (hf : s.fitted x = true) (hc : (s.outlet x).sp.contactor = .openWait) :
    OpenConfirmed s ((s.modSp x feedbackCut).openConfirmed x) x := by
  obtain ⟨hs, hp⟩ | ⟨hs | hs | hs, hp⟩ := states_of_openWait law hc
  · exact openConfirmed_connecting law hs hp
  · exact openConfirmed_suspended law hs hp
  · exact openConfirmed_closing law hs hp
  · exact openConfirmed_heldOut law hf hs hp

/-! ## A contactor drop (R100) -/

/-- The stage port's record of a contactor that opened on its own: an order of 0 and the open confirmed. -/
def droppedPort (o : StageOutlet) : StageOutlet := confirmedOpen (feedbackCut o).orderedZero

theorem dropped_eq : ((s.modSp x feedbackCut).order x 0).modSp x confirmedOpen =
    State.modSp { s with stageTx := s.setpointsAfterZero x } x droppedPort := by
  have sent : (s.modSp x feedbackCut).setpointsAfterZero x = s.setpointsAfterZero x := by
    unfold State.setpointsAfterZero
    rw [State.modSp_same, show (s.modSp x feedbackCut).stageTx = s.stageTx by simp]
    rfl
  rw [order_zero_eq, modSp_modSp, sent]
  cases x <;> rfl

theorem droppedPort_lawful {o : StageOutlet} (h : o.Lawful) : (droppedPort o).Lawful := by
  have zero := timerFits (orderedZero_lawful h)
  have lines : TimerFits (feedbackCut o).orderedZero ∧ (feedbackCut o).orderedZero.feedbackClosed = false := by
    rw [orderedZero_eq] at zero ⊢
    unfold StageOutlet.orderedZero at *
    exact ⟨by split <;> simp_all [feedbackCut, TimerFits], rfl⟩
  exact confirmedOpen_lawful lines.1 lines.2

theorem droppedPort_lines (o : StageOutlet) : (droppedPort o).ordered = 0 ∧ (droppedPort o).isConfirmed = true ∧
    (droppedPort o).feedbackClosed = false ∧ (droppedPort o).plugPresent = o.plugPresent ∧ (droppedPort o).contactor = .isOpen := by
  unfold droppedPort confirmedOpen StageOutlet.confirmOpen
  rw [orderedZero_eq]
  simp [feedbackCut]

theorem idle_or_vacant {r : SessionRecord} (h : ClosingLeft s t x r) :
    (t.outlet x).sc.state = .idle ∨ (t.outlet x).sc.state = .vacant := by
  obtain ⟨-, -, -, rest⟩ := h
  split at rest
  · exact .inl rest.1
  · exact .inr (by rw [rest.2.2.1]; rfl)

/-- What a contactor that opened on its own leaves of outlet x. -/
structure Dropped (s t : State) (x : Outlet) (r : SessionRecord) : Prop where
  work : OutletWork x s t
  stageTx : t.stageTx = s.setpointsAfterZero x
  ordered : (t.outlet x).sp.ordered = 0
  driveClosed : (t.outlet x).sp.driveClosed = false
  left : ClosingLeft s t x (if (s.outlet x).sc.state = .energising then { r with endReason := some 137 } else r)
  law : Law t

theorem drop_energising (law : Law s) (hs : (s.outlet x).sc.state = .energising) (hc : (s.outlet x).sp.contactor = .closed)
    {r : SessionRecord} (hr : (s.outlet x).sc.session = some r) :
    Dropped s ((((s.modSp x feedbackCut).order x 0).openConfirmed x).contactorDrop x) x r := by
  have running : (s.outlet x).sc.state.running = true := by rw [hs]; rfl
  have inside := law.inSession hr (.inl running)
  have pending := pendingClose_of_not_openWait (law.fits x).1 (by rw [hc]; decide)
  have sc : (((s.modSp x feedbackCut).order x 0).outlet x).sc = (s.outlet x).sc := by simp
  have notPending : (((s.modSp x feedbackCut).order x 0).outlet x).sp.pendingClose = false := by
    rw [((s.modSp x feedbackCut).order_contactor x 0).2.2.2.1, State.modSp_same]; exact pending
  have confirmed := openConfirmed_waiting (s := (s.modSp x feedbackCut).order x 0) (x := x) (by rw [sc, hs]; decide)
    (by rw [sc, hs]; decide)
  rw [notPending, if_neg (by decide), dropped_eq] at confirmed
  have work : OutletWork x s _ := ((((modSp_work s x feedbackCut).trans (order_work _ x 0)).trans (openConfirmed_work _ x)).trans
    (ordinaryStop_work _ x EndReason.contactorDrop))
  rw [confirmed] at work ⊢
  generalize hy : State.modSp { s with stageTx := s.setpointsAfterZero x } x droppedPort = y at *
  have ysp : (y.outlet x).sp = droppedPort (s.outlet x).sp := by rw [← hy, State.modSp_same]; simp
  have ysc : (y.outlet x).sc = (s.outlet x).sc := by rw [← hy]; simp
  have ymu : (y.outlet x).mu = (s.outlet x).mu := by rw [← hy]; simp
  have frame : y.cf = s.cf ∧ y.estop = s.estop ∧ y.ts = s.ts ∧ y.sq = s.sq ∧ y.stageTx = s.setpointsAfterZero x := by rw [← hy]; simp
  obtain ⟨hcf, hestop, hts, hsq, htx⟩ := frame
  obtain ⟨ordered, isConfirmed, feedback, plug, contactor⟩ := droppedPort_lines (s.outlet x).sp
  have yin : InSession y x r := {
    stage := by rw [ysp]; exact droppedPort_lawful inside.stage
    sound := by rw [ysp, contactor]; decide
    session := by rw [ysc]; exact hr
    openCheck := by rw [ysc]; exact inside.openCheck
    awaitTimer := by rw [ysc]; exact inside.awaitTimer
    idleTimer := by rw [ysc]; exact inside.idleTimer
    window := by rw [ymu]; exact inside.window
    released := by rw [hestop]; exact inside.released }
  have shape : y.contactorDrop x = y.ordinaryStop x EndReason.contactorDrop := if_pos (by rw [ysc]; exact hs)
  obtain ⟨stopped, fits⟩ := ordinaryStop_spec EndReason.contactorDrop yin (by rw [ysc, hs]; decide)
  rw [OrdinaryStopped, ysp, if_pos ⟨ordered, .inl isConfirmed⟩] at stopped
  obtain ⟨-, tx, -, -, -, zero, drive, -, left⟩ := stopped
  rw [ysp, feedback, if_neg (by decide)] at left
  rw [State.setpointsAfterZero, ysp, if_pos ordered] at tx
  rw [shape]
  refine ⟨work, tx.trans htx, zero, drive, ?_, law.ofWorkInUse work (not_outOfService_of_running running) fits⟩
  rw [if_pos hs]
  exact closingLeft_ofSame hcf hts hsq (by rw [ysp, plug]) ymu left

theorem drop_closing (law : Law s) (hs : (s.outlet x).sc.state = .closing) (hstep : (s.outlet x).sc.step = .rampDown)
    (hc : (s.outlet x).sp.contactor = .closed) {r : SessionRecord} (hr : (s.outlet x).sc.session = some r) :
    Dropped s ((((s.modSp x feedbackCut).order x 0).openConfirmed x).contactorDrop x) x r := by
  obtain ⟨r', hr', hramp⟩ := ramping law hs hstep
  rw [hr] at hr'
  cases hr'
  have pending := pendingClose_of_not_openWait (law.fits x).1 (by rw [hc]; decide)
  have same : (s.modSp x feedbackCut).order x 0 = s.modSp x feedbackCut :=
    ((s.modSp x feedbackCut).order_spec x 0).1 (by rw [State.modSp_same]; exact hramp.ordered.symm)
  have done := openConfirmed_closing law hs pending
  have left := done.closing hs r hr hramp.ordered
  rw [same]
  generalize (s.modSp x feedbackCut).openConfirmed x = t at done left
  have state := idle_or_vacant left
  have shape : t.contactorDrop x = t := by
    unfold State.contactorDrop
    rw [if_neg (by obtain g | g := state <;> rw [g] <;> decide), endRampDown_elsewhere (.inl (by obtain g | g := state <;> rw [g] <;> decide))]
  rw [shape]
  refine ⟨done.work, ?_, done.ordered.trans hramp.ordered, drive_released (done.law.fits x).1 (.inl left.1), ?_, done.law⟩
  · rw [State.setpointsAfterZero, if_pos hramp.ordered, done.stageTx]
  · rw [if_neg (by rw [hs]; decide)]; exact left

theorem closed_dropped (law : Law s) (hc : (s.outlet x).sp.contactor = .closed) {r : SessionRecord}
    (hr : (s.outlet x).sc.session = some r) :
    Dropped s ((((s.modSp x feedbackCut).order x 0).openConfirmed x).contactorDrop x) x r := by
  obtain hs | ⟨hs, hstep⟩ := states_of_closed law hc
  · exact drop_energising law hs hc hr
  · exact drop_closing law hs hstep hc hr

theorem session_of_closed (law : Law s) (hc : (s.outlet x).sp.contactor = .closed) : ∃ r, (s.outlet x).sc.session = some r := by
  obtain hs | ⟨hs, -⟩ := states_of_closed law hc
  · obtain ⟨r, hr, -⟩ := (law.fits x).running (by rw [hs]; rfl); exact ⟨r, hr⟩
  · obtain ⟨r, hr, -⟩ := (law.fits x).ended (.inl hs); exact ⟨r, hr⟩

theorem law_feedbackOpen (law : Law s) : ∃ t, exec (.feedbackOpen x) s = .next t ∧ Law t := by
  by_cases hx : s.fitted x = false ∨ (s.outlet x).sp.feedbackClosed = false
  · exact ⟨s, exec_feedbackOpen_ignored hx, law⟩
  obtain ⟨hf, h⟩ := not_or.1 hx
  have hf := Bool.eq_true_of_not_eq_false hf
  have h := Bool.eq_true_of_not_eq_false h
  rw [exec_feedbackOpen hf h]
  cases hc : (s.outlet x).sp.contactor with
  | openWait => exact ⟨_, rfl, (openWait_confirmed law hf hc).law⟩
  | closed =>
    obtain ⟨r, hr⟩ := session_of_closed law hc
    exact ⟨_, rfl, (closed_dropped law hc hr).law⟩
  | isOpen => exact absurd (feedback_open (law.fits x).1 (.inl hc)) (by rw [h]; decide)
  | closeWait => exact absurd (feedback_open (law.fits x).1 (.inr hc)) (by rw [h]; decide)
  | welded =>
    have hs := outOfService_of_welded law hc
    exact ⟨_, rfl, law_modSp law _ (welded_lawful (law.fits x).1 hc false) (.inl (by rw [hs]; decide))⟩

/-- Settles O16: an open feedback confirms the open that is waited for, and in CLOSED it is a contactor drop. -/
theorem feedbackOpen : Obligations.FeedbackOpen := by
  intro s x law
  have laws := (outletLaw_iff s).1 law
  refine ⟨exec_feedbackOpen_ignored, fun hf h => ?_⟩
  have exec_ := exec_feedbackOpen hf h
  refine ⟨fun hc => ?_, fun hc => ?_, fun hc r hr => ?_⟩
  · rw [exec_, hc]; rfl
  · rw [hc] at exec_
    have done := openWait_confirmed laws hf hc
    exact ⟨_, exec_, done.work.onlyOutlet, done.stageTx, done.confirmed, done.isConfirmed, done.connecting, done.suspended, done.closing,
      done.outOfService⟩
  · rw [hc] at exec_
    have done := closed_dropped laws hc hr
    exact ⟨_, exec_, done.work.onlyOutlet, done.stageTx, done.ordered, done.driveClosed, done.left⟩

/-! ## The contactor timer (R98, R99) -/

theorem exec_contactorTimerExpiry_stopped (h : (s.outlet x).sp.contactorTimer = false) : exec (.contactorTimerExpiry x) s = .next s :=
  if_neg (by rw [h]; decide)

theorem exec_contactorTimerExpiry (h : (s.outlet x).sp.contactorTimer = true) : exec (.contactorTimerExpiry x) s =
    match (s.outlet x).sp.contactor with
    | .closeWait => .next ((s.openConfirmed x).contactorFault x)
    | .openWait => .next (s.weld x)
    | .isOpen => .next s
    | .closed => .next s
    | .welded => .next s :=
  (if_pos h).trans rfl

theorem contactorTimer_runs (h : (s.outlet x).sp.Lawful) (hc : (s.outlet x).sp.contactor = .closeWait ∨ (s.outlet x).sp.contactor = .openWait) :
    (s.outlet x).sp.contactorTimer = true := by
  obtain ⟨-, timer, -⟩ := h
  exact timer.2 hc

/-- What a close that failed leaves of outlet x. -/
structure CloseFailed (s t : State) (x : Outlet) (r : SessionRecord) : Prop where
  work : OutletWork x s t
  stageTx : (s.outlet x).sp.ordered = 0 → t.stageTx = s.stageTx
  left : ClosingLeft s t x (if (s.outlet x).sc.state = .connecting then { r with endReason := some 136 } else r)
  law : Law t

theorem confirmedOpen_ordered (o : StageOutlet) : (confirmedOpen o).ordered = o.ordered := rfl

theorem closeFailed_connecting (law : Law s) (hs : (s.outlet x).sc.state = .connecting) (hc : (s.outlet x).sp.contactor = .closeWait)
    {r : SessionRecord} (hr : (s.outlet x).sc.session = some r) : CloseFailed s ((s.openConfirmed x).contactorFault x) x r := by
  have running : (s.outlet x).sc.state.running = true := by rw [hs]; rfl
  have pending := pendingClose_of_not_openWait (law.fits x).1 (by rw [hc]; decide)
  have feedback := feedback_open (law.fits x).1 (.inr hc)
  have confirmed := openConfirmed_waiting (s := s) (x := x) (by rw [hs]; decide) (by rw [hs]; decide)
  rw [pending, if_neg (by decide)] at confirmed
  have inside := inSession_modSp (law.inSession hr (.inl running)) confirmedOpen
    (confirmedOpen_lawful (timerFits (law.fits x).1) feedback) (by simp [confirmedOpen, StageOutlet.confirmOpen])
  have sp : ((s.modSp x confirmedOpen).outlet x).sp = confirmedOpen (s.outlet x).sp := by rw [State.modSp_same]
  have shape : (s.openConfirmed x).contactorFault x = (s.modSp x confirmedOpen).quickStop x EndReason.contactorFault := by
    rw [confirmed]; exact if_pos (by rw [State.modSp_sc]; exact hs)
  obtain ⟨stopped, fits⟩ := quickStop_spec EndReason.contactorFault inside (by rw [State.modSp_sc, hs]; decide)
  have work := (modSp_work s x confirmedOpen).trans (quickStop_work _ x EndReason.contactorFault)
  obtain ⟨-, tx, -, -, -, -, -, -, left⟩ := stopped
  rw [sp, if_neg (by rw [show (confirmedOpen (s.outlet x).sp).feedbackClosed = _ from feedback]; decide)] at left
  rw [shape]
  refine ⟨work, fun zero => ?_, ?_, law.ofWorkInUse work (by rw [hs]; decide) fits⟩
  · rw [State.setpointsAfterZero, sp, if_pos ((confirmedOpen_ordered _).trans zero)] at tx
    exact tx.trans (by simp)
  · rw [if_pos hs]; exact closingLeft_modSp (f := confirmedOpen) rfl left

theorem closeFailed_closing (law : Law s) (hs : (s.outlet x).sc.state = .closing) (hstep : (s.outlet x).sc.step = .rampDown)
    (hc : (s.outlet x).sp.contactor = .closeWait) {r : SessionRecord} (hr : (s.outlet x).sc.session = some r) :
    CloseFailed s ((s.openConfirmed x).contactorFault x) x r := by
  obtain ⟨r', hr', hramp⟩ := ramping law hs hstep
  rw [hr] at hr'
  cases hr'
  have pending := pendingClose_of_not_openWait (law.fits x).1 (by rw [hc]; decide)
  have feedback := feedback_open (law.fits x).1 (.inr hc)
  have over_ := openStep_over hramp confirmedOpen (confirmedOpen_lawful (timerFits (law.fits x).1) feedback)
    (by simp [confirmedOpen, StageOutlet.confirmOpen]) hramp.ordered
  rw [← openConfirmed_rampDown hs hstep pending hramp.unconfirmed hramp.ordered] at over_
  have left := closingLeft_modSp (f := confirmedOpen) rfl (over_.left feedback)
  have law' := law_of_over law hs over_
  have work := over_.work
  have tx := over_.stageTx
  generalize s.openConfirmed x = t at *
  have state := idle_or_vacant left
  have shape : t.contactorFault x = t := by
    unfold State.contactorFault
    rw [if_neg (by obtain g | g := state <;> rw [g] <;> decide), endRampDown_elsewhere (.inl (by obtain g | g := state <;> rw [g] <;> decide))]
  rw [shape]
  exact ⟨work, fun _ => tx, by rw [if_neg (by rw [hs]; decide)]; exact left, law'⟩

theorem closeWait_failed (law : Law s) (hc : (s.outlet x).sp.contactor = .closeWait) {r : SessionRecord}
    (hr : (s.outlet x).sc.session = some r) : CloseFailed s ((s.openConfirmed x).contactorFault x) x r := by
  obtain hs | ⟨hs, hstep⟩ := states_of_closeWait law hc
  · exact closeFailed_connecting law hs hc hr
  · exact closeFailed_closing law hs hstep hc hr

theorem session_of_closeWait (law : Law s) (hc : (s.outlet x).sp.contactor = .closeWait) : ∃ r, (s.outlet x).sc.session = some r := by
  obtain hs | ⟨hs, -⟩ := states_of_closeWait law hc
  · obtain ⟨r, hr, -⟩ := (law.fits x).running (by rw [hs]; rfl); exact ⟨r, hr⟩
  · obtain ⟨r, hr, -⟩ := (law.fits x).ended (.inl hs); exact ⟨r, hr⟩

/-- A contactor that did not open is suspected of having welded. -/
theorem openWait_welded (law : Law s) (hc : (s.outlet x).sp.contactor = .openWait) :
    (s.outlet x).sc.state ≠ .awaitPlug ∧ Welded s (s.weld x) x := by
  have states := states_of_openWait law hc
  have away : (s.outlet x).sc.state ≠ .energising ∧ (s.outlet x).sc.state ≠ .awaitPlug := by
    obtain ⟨h, -⟩ | ⟨h | h | h, -⟩ := states <;> rw [h] <;> decide
  exact ⟨away.2, weld_spec away.1 (stopped_of (law.fits x).silenceTimer away.1)⟩

theorem law_contactorTimerExpiry (law : Law s) : ∃ t, exec (.contactorTimerExpiry x) s = .next t ∧ Law t := by
  by_cases h : (s.outlet x).sp.contactorTimer = true
  · rw [exec_contactorTimerExpiry h]
    cases hc : (s.outlet x).sp.contactor with
    | closeWait =>
      obtain ⟨r, hr⟩ := session_of_closeWait law hc
      exact ⟨_, rfl, (closeWait_failed law hc hr).law⟩
    | openWait =>
      obtain ⟨-, welded⟩ := openWait_welded law hc
      exact ⟨_, rfl, law_of_welded law (weld_work s x) (timerFits (law.fits x).1) (fun _ => by rw [welded.sc]; rfl) welded⟩
    | isOpen => exact ⟨s, rfl, law⟩
    | closed => exact ⟨s, rfl, law⟩
    | welded => exact ⟨s, rfl, law⟩
  · exact ⟨s, exec_contactorTimerExpiry_stopped (Bool.eq_false_iff.2 h), law⟩

/-- Settles O17: a close that fails ends the session, and an open that fails is a weld suspicion. -/
theorem contactorTimerExpiry : Obligations.ContactorTimerExpiry := by
  intro s x law
  have laws := (outletLaw_iff s).1 law
  refine ⟨exec_contactorTimerExpiry_stopped, fun hc zero r hr => ?_, fun hc => ?_⟩
  · have exec_ := exec_contactorTimerExpiry (contactorTimer_runs (laws.fits x).1 (.inl hc))
    rw [hc] at exec_
    have failed := closeWait_failed laws hc hr
    have opened := failed.left.1
    have lawful := (failed.law.fits x).1
    obtain ⟨-, timer, -⟩ := id lawful
    exact ⟨_, exec_, failed.work.onlyOutlet, failed.stageTx zero, drive_released lawful (.inl opened),
      stopped_of timer (by rw [opened]; decide), failed.left⟩
  · have exec_ := exec_contactorTimerExpiry (contactorTimer_runs (laws.fits x).1 (.inr hc))
    rw [hc] at exec_
    obtain ⟨notAwait, -, hsp, hsc, -, settled⟩ := openWait_welded laws hc
    have drive := drive_released (laws.fits x).1 (.inr (.inl hc))
    refine ⟨_, exec_, (weld_work s x).onlyOutlet, ?_, by rw [hsc]; rfl, by rw [hsc]; rfl, fun r hr => ?_⟩
    · rw [hsp, suspected, ← drive]
    · have := settled r hr
      rw [weldedRecord] at this
      simpa only [notAwait, false_or] using this

end

end Sys2Proof.Proofs.ContactorEvents
end

section
/-! The plug and the session timers at one outlet (R102, R121, R130, R144): what each event makes of the outlet, and that it keeps the
laws. -/

namespace Sys2Proof.Proofs.PlugEvents

open Machine OutletOperations ShareLaw Stopping OutletLaws OutletLawKept StopAndRestart StageEvents ContactorEvents

section
variable {s t : State} {x : Outlet}

/-! ## A session held in SUSPENDED by the halt (R128) -/

/-- What SUSPENDED with HALTED, entered without an open, makes of an outlet. -/
structure Held (s t : State) (x : Outlet) : Prop where
  sc : (t.outlet x).sc = { (s.outlet x).sc with
    state := .suspended
    session := (s.outlet x).sc.session.map fun r => { r with flags := { r.flags with halted := true } } }
  mu : (t.outlet x).mu = { (s.outlet x).mu with silenceTimer := false }
  sp : (t.outlet x).sp = (s.outlet x).sp
  stageTx : t.stageTx = s.stageTx
  ts : t.ts = s.ts
  sq : t.sq = s.sq

theorem hold_held (h : (s.outlet x).sc.state ≠ .suspended) :
    Held s ((s.enter x .suspended).modFlags x fun f => { f with halted := true }) x := by
  refine ⟨by rw [modFlags_sc, enter_sc], ?_, by simp, by simp, by simp, by simp⟩
  rw [State.modFlags_mu, enter_mu, if_neg h]; rfl

theorem fits_of_held {r : SessionRecord} (inside : InSession s x r) (hend : r.endReason = none)
    (hc : (s.outlet x).sp.contactor = .isOpen) (h : Held s t x) : Fits (t.outlet x) := by
  refine ⟨by rw [h.sp]; exact inside.stage, ?_⟩
  simp only [OutletRecord.Lawful, h.sc, h.sp, h.mu, hc, inside.session, inside.openCheck, inside.awaitTimer, inside.idleTimer, inside.window]
  simp [contactorFits, hend]

theorem quickStopped_state {r : SessionRecord} {reason : Nat} (h : QuickStopped s t x r reason) : (t.outlet x).sc.state ≠ .awaitPlug := by
  obtain ⟨-, -, -, -, -, -, -, -, rest⟩ := h
  split at rest
  · obtain ⟨-, -, hs, -⟩ := rest; rw [hs]; decide
  · obtain g | g := idle_or_vacant rest <;> rw [g] <;> decide

theorem ordinaryStopped_state {r : SessionRecord} {reason : Nat} (h : OrdinaryStopped s t x r reason) :
    (t.outlet x).sc.state ≠ .awaitPlug ∧ (t.outlet x).sp.plugPresent = (s.outlet x).sp.plugPresent := by
  unfold OrdinaryStopped at h
  split at h
  · refine ⟨quickStopped_state h, ?_⟩
    obtain ⟨-, -, -, -, plug, -⟩ := h
    exact plug
  · obtain ⟨-, -, -, -, -, -, plug, -, -, -, -, -, hs, -⟩ := h
    exact ⟨by rw [hs]; decide, plug⟩

/-! ## PLUG_INSERTED (R102, R130) -/

/-- The stage port's record with the plug present. -/
def pluggedPort (o : StageOutlet) : StageOutlet := { o with plugPresent := true }

theorem exec_plugInserted_ignored (h : s.fitted x = false ∨ (s.outlet x).sp.plugPresent = true) : exec (.plugInserted x) s = .next s := by
  refine if_neg fun g => ?_
  obtain h | h := h
  · rw [h] at g; exact absurd g.1 (by decide)
  · rw [h] at g; exact absurd g.2 (by decide)

/-- The outlet in AWAIT_PLUG with its plug present and the await timer stopped. -/
def plugged (s : State) (x : Outlet) : State := (s.modSp x pluggedPort).modSc x fun c => { c with awaitTimer := false }

theorem exec_plugInserted (hf : s.fitted x = true) (h : (s.outlet x).sp.plugPresent = false) : exec (.plugInserted x) s =
    .next (if (s.outlet x).sc.state = .awaitPlug then
      if s.pv.isHalted = true then ((plugged s x).enter x .suspended).modFlags x fun f => { f with halted := true }
      else (plugged s x).connect x
    else s.modSp x pluggedPort) := by
  show execPlugInserted x s = _
  unfold execPlugInserted
  rw [if_pos ⟨hf, h⟩]
  dsimp only
  split
  · split <;> rfl
  · rfl

theorem plugged_outlet : ((plugged s x).outlet x).sp = pluggedPort (s.outlet x).sp ∧ ((plugged s x).outlet x).mu = (s.outlet x).mu ∧
    ((plugged s x).outlet x).sc = { (s.outlet x).sc with awaitTimer := false } := by
  unfold plugged
  refine ⟨by simp, by simp, by simp⟩

theorem plugged_work : OutletWork x s (plugged s x) := (modSp_work s x _).trans (modSc_work _ x _ (by intro; rfl))

theorem plugged_inSession (law : Law s) (hs : (s.outlet x).sc.state = .awaitPlug) {r : SessionRecord}
    (hr : (s.outlet x).sc.session = some r) : InSession (plugged s x) x r := by
  obtain ⟨sp, mu, sc⟩ := plugged_outlet (s := s) (x := x)
  have away : (s.outlet x).sc.state ≠ .outOfService := by rw [hs]; decide
  have lawful : (pluggedPort (s.outlet x).sp).Lawful := (law.fits x).1
  exact {
    stage := by rw [sp]; exact lawful
    sound := by rw [sp]; exact (law.fits x).notWelded away
    session := by rw [sc]; exact hr
    openCheck := by rw [sc]; exact (law.fits x).openCheck away
    awaitTimer := by rw [sc]
    idleTimer := by rw [sc]; exact stopped_of (law.fits x).idleTimer (by rw [hs]; decide)
    window := by rw [mu, (law.fits x).window, hr]; rfl
    released := by rw [(plugged_work (s := s) (x := x)).estop]; exact (law.inUse away).1 }

theorem law_plugInserted (law : Law s) : ∃ t, exec (.plugInserted x) s = .next t ∧ Law t := by
  by_cases hx : s.fitted x = false ∨ (s.outlet x).sp.plugPresent = true
  · exact ⟨s, exec_plugInserted_ignored hx, law⟩
  obtain ⟨hf, h⟩ := not_or.1 hx
  refine ⟨_, exec_plugInserted (Bool.eq_true_of_not_eq_false hf) (Bool.eq_false_iff.2 h), ?_⟩
  split
  · next hs =>
    obtain ⟨r, hr, hend⟩ := (law.fits x).awaitPlug hs
    have inside := plugged_inSession law hs hr
    obtain ⟨sp, -, sc⟩ := plugged_outlet (s := s) (x := x)
    have state : ((plugged s x).outlet x).sc.state = .awaitPlug := by rw [sc]; exact hs
    have opened : ((plugged s x).outlet x).sp.contactor = .isOpen := by rw [sp]; exact waiting_contactor law (.inl hs)
    have away : (s.outlet x).sc.state ≠ .outOfService := by rw [hs]; decide
    split
    · exact law.ofWorkInUse ((plugged_work.trans (enter_work _ x _)).trans (modFlags_work _ x _)) away
        (fits_of_held inside hend opened (hold_held (by rw [state]; decide)))
    · exact law.ofWorkInUse (plugged_work.trans (connect_work _ x)) away
        (fits_of_connect inside hend (by rw [state]; decide) (by rw [state]; decide) (.inl opened))
  · have stage : (pluggedPort (s.outlet x).sp).Lawful := (law.fits x).1
    refine law_of_alike law (modSp_work s x _) { contactor := by rw [State.modSp_same]; rfl, pendingClose := by rw [State.modSp_same]; rfl }
      (by rw [State.modSp_same]; exact stage) fun h g => ?_
    rw [State.modSp_same]; exact (law.fits x).rampDown h g

/-- Settles O18: a plug inserted in AWAIT_PLUG takes the outlet on. -/
theorem plugInserted : Obligations.PlugInserted := by
  intro s x law
  have laws := (outletLaw_iff s).1 law
  refine ⟨exec_plugInserted_ignored, fun hf h => ?_⟩
  have exec_ := exec_plugInserted hf h
  refine ⟨fun hs => by rw [exec_, if_neg hs]; rfl, fun hs r hr => ?_⟩
  rw [if_pos hs] at exec_
  have inside := plugged_inSession laws hs hr
  obtain ⟨sp, -, sc⟩ := plugged_outlet (s := s) (x := x)
  have state : ((plugged s x).outlet x).sc.state = .awaitPlug := by rw [sc]; exact hs
  have opened : ((plugged s x).outlet x).sp.contactor = .isOpen := by rw [sp]; exact waiting_contactor laws (.inl hs)
  have frame : (plugged s x).sq = s.sq ∧ (plugged s x).ts = s.ts ∧ (plugged s x).stageTx = s.stageTx := by simp [plugged]
  obtain ⟨hsq, hts, htx⟩ := frame
  by_cases halted : s.pv.isHalted = true
  · rw [if_pos halted] at exec_
    have held := hold_held (s := plugged s x) (x := x) (by rw [state]; decide)
    have work := (plugged_work.trans (enter_work (plugged s x) x .suspended)).trans (modFlags_work _ x fun f => { f with halted := true })
    refine ⟨_, exec_, work.onlyOutlet, by rw [held.sp, sp]; rfl, by rw [held.sc, sc], fun _ => ?_,
      fun g => absurd (halted.symm.trans g) (by decide), fun g => absurd (halted.symm.trans g) (by decide)⟩
    refine ⟨held.sq.trans hsq, held.ts.trans hts, held.stageTx.trans htx, by rw [held.sp]; exact opened, by rw [held.sc], ?_⟩
    rw [held.sc, sc]
    exact congrArg (Option.map _) hr
  · rw [if_neg halted] at exec_
    have work := plugged_work.trans (connect_work (plugged s x) x)
    cases hcap : r.capReached with
    | none =>
      have c := connect_spec inside.session hcap (by rw [state]; decide) (.inl opened)
      have port := c.sp
      rw [if_pos opened] at port
      refine ⟨_, exec_, work.onlyOutlet, by rw [port, sp]; rfl, by rw [c.sc, sc], fun g => absurd g halted, fun _ _ => ?_,
        fun _ reason g => absurd g (by simp)⟩
      refine ⟨c.sq.trans hsq, c.ts.trans hts, c.stageTx.trans htx, by rw [port], by rw [port], by rw [port], by rw [c.sc], ?_⟩
      rw [c.sc]
      exact inside.session
    | some reason =>
      rw [connect_capped inside.session hcap] at exec_ work
      obtain ⟨stopped, fits⟩ := ordinaryStop_spec reason inside (by rw [state]; decide)
      obtain ⟨away, plug⟩ := ordinaryStopped_state stopped
      refine ⟨_, exec_, work.onlyOutlet, by rw [plug, sp]; rfl, stopped_of fits.awaitTimer away, fun g => absurd g halted,
        fun _ g => absurd g (by simp), fun _ reason' g => ?_⟩
      cases g
      exact stopped

/-! ## PLUG_REMOVED (R102, R144) -/

/-- The stage port's record with the plug absent. -/
def unpluggedPort (o : StageOutlet) : StageOutlet := { o with plugPresent := false }

theorem exec_plugRemoved_ignored (h : s.fitted x = false ∨ (s.outlet x).sp.plugPresent = false) : exec (.plugRemoved x) s = .next s := by
  refine if_neg fun g => ?_
  obtain h | h := h
  · rw [h] at g; exact absurd g.1 (by decide)
  · rw [h] at g; exact absurd g.2 (by decide)

theorem exec_plugRemoved (hf : s.fitted x = true) (h : (s.outlet x).sp.plugPresent = true) : exec (.plugRemoved x) s =
    .next (if (s.outlet x).sc.state.running = true then (s.modSp x unpluggedPort).quickStop x EndReason.unplugged
      else if (s.outlet x).sc.state = .closing then (s.modSp x unpluggedPort).endRampDown x
      else if (s.outlet x).sc.state = .idle then (s.modSp x unpluggedPort).settle x
      else s.modSp x unpluggedPort) := by
  show execPlugRemoved x s = _
  unfold execPlugRemoved
  rw [if_pos ⟨hf, h⟩]
  dsimp only
  cases (s.outlet x).sc.state <;> rfl

/-- R144: a session that stands in IDLE is settled as its plug is removed. -/
theorem settle_idle (law : Law s) (hs : (s.outlet x).sc.state = .idle) {r : SessionRecord} (hr : (s.outlet x).sc.session = some r) :
    SettledAs (s.modSp x unpluggedPort) ((s.modSp x unpluggedPort).settle x) x r .vacant ∧
    (((s.modSp x unpluggedPort).settle x).outlet x).sp = unpluggedPort (s.outlet x).sp ∧
    ((s.modSp x unpluggedPort).settle x).isPending (Cause.ofOutlet x) = true := by
  have released := (law.inUse (by rw [hs]; decide : (s.outlet x).sc.state ≠ .outOfService)).1
  have estop : (s.modSp x unpluggedPort).estop = false := by simpa using released
  have sc : ((s.modSp x unpluggedPort).outlet x).sc = (s.outlet x).sc := by simp
  have moved : (((s.modSp x unpluggedPort).settleRecord x).outlet x).sc.state ≠ .vacant := by
    rw [settleRecord_sc, sc, SessionOutlet.afterSettling, hs]; decide
  refine ⟨?_, by rw [State.settle_sp, State.modSp_same], ?_⟩
  · rw [State.settle, estop]
    exact settleAndEnter_settledAs (by rw [sc]; exact hr) (by decide) (.inl (by rw [sc, hs]; decide))
  · rw [State.settle, estop]
    exact State.enter_pending _ x _ moved

theorem law_plugRemoved (law : Law s) : ∃ t, exec (.plugRemoved x) s = .next t ∧ Law t := by
  by_cases hx : s.fitted x = false ∨ (s.outlet x).sp.plugPresent = false
  · exact ⟨s, exec_plugRemoved_ignored hx, law⟩
  obtain ⟨hf, h⟩ := not_or.1 hx
  refine ⟨_, exec_plugRemoved (Bool.eq_true_of_not_eq_false hf) (Bool.eq_true_of_not_eq_false h), ?_⟩
  have lawful : (unpluggedPort (s.outlet x).sp).Lawful := (law.fits x).1
  split
  · next running =>
    obtain ⟨r, hr, -⟩ := (law.fits x).running running
    have inside := law.inSession hr (.inl running)
    exact law.ofWorkInUse ((modSp_work s x _).trans (quickStop_work _ x _)) (not_outOfService_of_running running)
      (quickStop_spec _ (inSession_modSp inside unpluggedPort lawful inside.sound)
        (by rw [State.modSp_sc]; exact not_closing_of_running running)).2
  · split
    · next hs =>
      by_cases hstep : (s.outlet x).sc.step = .rampDown
      · obtain ⟨r, -, hramp⟩ := ramping law hs hstep
        exact law_of_over law hs (endRampDown_over hramp _ lawful hramp.inSession.sound hramp.ordered)
      · rw [endRampDown_modSp_elsewhere _ (.inr hstep)]
        exact law_modSp law _ lawful (.inr hstep)
    · next away =>
      split
      · next hs =>
        obtain ⟨r, hr, -⟩ := (law.fits x).ended (.inr hs)
        obtain ⟨settled, sp, -⟩ := settle_idle law hs hr
        refine law.ofWorkInUse ((modSp_work s x _).trans (settle_work _ x)) (by rw [hs]; decide)
          (fits_of_settledAs settled (by rw [sp]; exact lawful) (.inl ⟨rfl, ?_⟩))
        rw [sp]; exact waiting_contactor law (.inr hs)
      · exact law_modSp law _ lawful (.inl away)

/-- Settles O19: a plug removed stops the session, ends its ramp-down, or settles it from IDLE. -/
theorem plugRemoved : Obligations.PlugRemoved := by
  intro s x law
  have laws := (outletLaw_iff s).1 law
  refine ⟨exec_plugRemoved_ignored, fun hf h u hu => ?_⟩
  have hu : u = s.modSp x unpluggedPort := hu
  subst hu
  have exec_ := exec_plugRemoved hf h
  have lawful : (unpluggedPort (s.outlet x).sp).Lawful := (laws.fits x).1
  refine ⟨fun hs => ?_, fun r hr => ⟨fun running => ?_, fun hs hstep => ?_, fun hs => ?_⟩⟩
  · rw [exec_]
    obtain hs | hs | hs | ⟨hs, hstep⟩ := hs
    · rw [hs]; rfl
    · rw [hs]; rfl
    · rw [hs]; rfl
    · rw [if_neg (by rw [hs]; decide), if_pos hs, endRampDown_modSp_elsewhere _ (.inr (by rw [hstep]; decide))]
  · rw [if_pos running] at exec_
    have inside := laws.inSession hr (.inl running)
    exact ⟨_, exec_, (quickStop_spec _ (inSession_modSp inside unpluggedPort lawful inside.sound)
      (by rw [State.modSp_sc]; exact not_closing_of_running running)).1⟩
  · rw [if_neg (by rw [hs]; decide), if_pos hs] at exec_
    obtain ⟨r', hr', hramp⟩ := ramping laws hs hstep
    rw [hr] at hr'
    cases hr'
    have over_ := endRampDown_over hramp unpluggedPort lawful hramp.inSession.sound hramp.ordered
    refine ⟨_, exec_, over_.work.onlyOutlet, over_.stageTx, ?_⟩
    by_cases hclosed : (s.outlet x).sp.feedbackClosed = true
    · have sp := over_.sp
      rw [openCommanded_of_zero (o := unpluggedPort (s.outlet x).sp) hramp.ordered,
        if_pos (show (unpluggedPort (s.outlet x).sp).feedbackClosed = true from hclosed)] at sp
      rw [if_pos hclosed, sp]
      exact ⟨rfl, rfl, over_.waits hclosed⟩
    · rw [if_neg hclosed]
      obtain ⟨-, -, -, left⟩ := over_.left (Bool.eq_false_iff.2 hclosed)
      rwa [if_neg] at left
      rintro ⟨plug, -⟩
      rw [State.modSp_same] at plug
      cases plug
  · rw [if_neg (by rw [hs]; decide), if_neg (by rw [hs]; decide), if_pos hs] at exec_
    obtain ⟨settled, sp, pending⟩ := settle_idle laws hs hr
    exact ⟨_, exec_, ((modSp_work s x _).trans (settle_work _ x)).onlyOutlet, settled, by rw [sp, State.modSp_same], pending⟩

/-! ## The session timers (R121, R130, R144) -/

theorem quickStop_silenced (hs : (s.outlet x).sc.state ≠ .closing) (reason : Nat) :
    (s.modMu x fun m => { m with silenceTimer := false }).quickStop x reason = s.quickStop x reason := by
  have entered : ((s.modMu x fun m => { m with silenceTimer := false }).endWith x reason).enter x .closing =
      (s.endWith x reason).enter x .closing := by
    have before : (((s.modMu x fun m => { m with silenceTimer := false }).endWith x reason).outlet x).sc.state ≠ .closing := by
      rw [endWith_sc, State.modMu_sc]; exact hs
    have after : ((s.endWith x reason).outlet x).sc.state ≠ .closing := by rw [endWith_sc]; exact hs
    unfold State.enter
    rw [if_neg before, if_neg after]
    cases x <;> rfl
  unfold State.quickStop
  rw [entered]

theorem exec_stageLost_stopped (h : (s.outlet x).mu.silenceTimer = false) : exec (.stageLost x) s = .next s := if_neg (by rw [h]; decide)

theorem exec_stageLost (h : (s.outlet x).mu.silenceTimer = true) (hs : (s.outlet x).sc.state = .energising) :
    exec (.stageLost x) s = .next (s.quickStop x EndReason.stageLost) := by
  show execStageLost x s = _
  unfold execStageLost
  rw [if_pos h]
  dsimp only
  rw [if_pos hs, quickStop_silenced (by rw [hs]; decide)]

theorem law_stageLost (law : Law s) : ∃ t, exec (.stageLost x) s = .next t ∧ Law t := by
  by_cases h : (s.outlet x).mu.silenceTimer = true
  · have hs := (law.fits x).silenceTimer.1 h
    have running : (s.outlet x).sc.state.running = true := by rw [hs]; rfl
    obtain ⟨r, hr, -⟩ := (law.fits x).running running
    exact ⟨_, exec_stageLost h hs, law_quickStop law hr running _⟩
  · exact ⟨s, exec_stageLost_stopped (Bool.eq_false_iff.2 h), law⟩

theorem exec_noVehicle_stopped (h : (s.outlet x).sc.awaitTimer = false) : exec (.noVehicle x) s = .next s :=
  if_neg fun g => by rw [h] at g; exact absurd g.1 (by decide)

theorem exec_noVehicle (h : (s.outlet x).sc.awaitTimer = true) (hs : (s.outlet x).sc.state = .awaitPlug) :
    exec (.noVehicle x) s = .next (s.endAndSettle x EndReason.noVehicle) := if_pos ⟨h, hs⟩

theorem law_noVehicle (law : Law s) : ∃ t, exec (.noVehicle x) s = .next t ∧ Law t := by
  by_cases h : (s.outlet x).sc.awaitTimer = true
  · have hs := (law.fits x).awaitTimer.1 h
    obtain ⟨r, hr, -⟩ := (law.fits x).awaitPlug hs
    exact ⟨_, exec_noVehicle h hs, law_endAndSettle law hr (.inl hs) _⟩
  · exact ⟨s, exec_noVehicle_stopped (Bool.eq_false_iff.2 h), law⟩

theorem endAndSettle_pending (released : s.estop = false) (h : (s.outlet x).sc.state ≠ .vacant) (reason : Nat) :
    (s.endAndSettle x reason).isPending (Cause.ofOutlet x) = true := by
  have estop : (s.endWith x reason).estop = false := by simpa using released
  rw [State.endAndSettle, State.settle, estop]
  refine State.enter_pending _ x _ ?_
  rw [settleRecord_sc, SessionOutlet.afterSettling, endWith_sc]
  exact h

theorem exec_idleMinute_stopped (h : (s.outlet x).sc.idleTimer = false) : exec (.idleMinute x) s = .next s := if_neg (by rw [h]; decide)

theorem exec_idleMinute (h : (s.outlet x).sc.idleTimer = true) {r : SessionRecord} {b : Tariff} (hr : (s.outlet x).sc.session = some r)
    (hb : (s.ts.bank r.bank).tariff = some b) : exec (.idleMinute x) s =
      .next (s.modSession x fun r => r.idleMinute b.idleGrace b.idlePrice b.idleMax) := by
  show execIdleMinute x s = _
  unfold execIdleMinute
  rw [if_pos h, hr]
  dsimp only
  rw [hb]

theorem law_idleMinute (law : Law s) : ∃ t, exec (.idleMinute x) s = .next t ∧ Law t := by
  by_cases h : (s.outlet x).sc.idleTimer = true
  · obtain ⟨r, hr, -⟩ := (law.fits x).ended (.inr ((law.fits x).idleTimer.1 h))
    cases hb : (s.ts.bank r.bank).tariff with
    | none =>
      refine ⟨s, ?_, law⟩
      show execIdleMinute x s = _
      unfold execIdleMinute
      rw [if_pos h, hr]
      dsimp only
      rw [hb]
    | some b =>
      have same : ∀ q : SessionRecord, (q.idleMinute b.idleGrace b.idlePrice b.idleMax).id = q.id ∧
          (q.idleMinute b.idleGrace b.idlePrice b.idleMax).endReason = q.endReason := fun q => by
        obtain ⟨n, flags, e | ⟨-, e⟩⟩ := BillLaw.idleMinute_cases q b.idleGrace b.idlePrice b.idleMax <;> rw [e] <;> exact ⟨rfl, rfl⟩
      exact ⟨_, exec_idleMinute h hr hb, law_modSession law _ (fun q => (same q).1) fun q => (same q).2⟩
  · exact ⟨s, exec_idleMinute_stopped (Bool.eq_false_iff.2 h), law⟩

/-- R144: one idle minute of a record. -/
theorem idleMinute_spec (r : SessionRecord) (grace price maximum : Nat) : ∃ r', r' = r.idleMinute grace price maximum ∧
    r' = { r with idleMinutes := min (r.idleMinutes + 1) 65535, billedIdle := r'.billedIdle, idleFee := r'.idleFee, flags := r'.flags } ∧
    (if r'.idleMinutes ≤ grace ∨ maximum ≤ r.billedIdle ∨ r.flags.idleClamped = true then
      r'.billedIdle = r.billedIdle ∧ r'.idleFee = r.idleFee ∧ r'.flags = r.flags
    else if r.costCap = 0 ∨ r.total + price ≤ r.costCap * 10000 then
      r'.billedIdle = r.billedIdle + 1 ∧ r'.idleFee = r.idleFee + price ∧ r'.flags = r.flags
    else r'.billedIdle = r.billedIdle ∧ r'.idleFee = r.idleFee ∧ r'.flags = { r.flags with idleClamped := true }) := by
  refine ⟨_, rfl, ?_⟩
  have total : ∀ n, SessionRecord.total { r with idleMinutes := n } = r.total := fun _ => rfl
  unfold SessionRecord.idleMinute
  dsimp only [Config.idleMinutesMax, Config.microPerHundredth]
  by_cases h1 : min (r.idleMinutes + 1) 65535 ≤ grace
  · simp [h1]
  · rw [if_neg h1]
    by_cases h2 : maximum ≤ r.billedIdle
    · simp [h2]
    · rw [if_neg h2]
      by_cases h3 : r.flags.idleClamped = true
      · simp [h3]
      · rw [if_neg h3, total]
        by_cases h4 : 0 < r.costCap ∧ r.costCap * 10000 < r.total + price
        · rw [if_pos h4]
          have : ¬ (r.costCap = 0 ∨ r.total + price ≤ r.costCap * 10000) := by omega
          simp [h1, h2, h3, this]
        · rw [if_neg h4]
          have : r.costCap = 0 ∨ r.total + price ≤ r.costCap * 10000 := by omega
          simp [h1, h2, h3, this]

theorem modSession_some {r : SessionRecord} (hr : (s.outlet x).sc.session = some r) (f : SessionRecord → SessionRecord) :
    s.modSession x f = s.modSc x fun c => { c with session := some (f r) } := by
  unfold State.modSession State.modSc
  dsimp only
  rw [hr]; rfl

/-- Settles O25: the silence timer, the await timer and the idle minute timer. -/
theorem sessionTimers : Obligations.SessionTimers := by
  intro s x law
  have laws := (outletLaw_iff s).1 law
  refine ⟨exec_stageLost_stopped, fun r h hr => ?_, exec_noVehicle_stopped, fun r h hr => ?_, exec_idleMinute_stopped,
    fun r b h hr hb => ?_⟩
  · have hs := (laws.fits x).silenceTimer.1 h
    exact ⟨_, exec_stageLost h hs, (quickStop_spec _ (laws.inSession hr (.inl (by rw [hs]; rfl))) (by rw [hs]; decide)).1⟩
  · have hs := (laws.fits x).awaitTimer.1 h
    have released := (laws.inUse (by rw [hs]; decide : (s.outlet x).sc.state ≠ .outOfService)).1
    exact ⟨_, exec_noVehicle h hs, (endAndSettle_work s x _).onlyOutlet,
      endAndSettle_settledAs _ hr (by rw [released]; rfl) (by rw [hs]; decide), by simp, by simp,
      endAndSettle_pending released (by rw [hs]; decide) _⟩
  · obtain ⟨r', hr', shape, rest⟩ := idleMinute_spec r b.idleGrace b.idlePrice b.idleMax
    refine ⟨r', ?_, shape, rest⟩
    rw [exec_idleMinute h hr hb, modSession_some hr, hr']

end

end Sys2Proof.Proofs.PlugEvents
end

section
/-! Samples, pulses, new sessions and resets keep the laws of the outlets, and so every step does. -/

namespace Sys2Proof.Proofs.OutletLawSteps

open Machine OutletOperations OutletEvents StationWork EveryCommand RoundSteps ShareLaw Stopping OutletLaws OutletLawKept StopAndRestart StationWide StageEvents ContactorEvents
  PlugEvents

section
variable {s t : State} {x : Outlet}

/-! ## Samples and pulses (R110, R114) -/

theorem law_handCarry (law : Law s) (wh : Nat) : Law (s.handCarry x wh) := by
  unfold State.handCarry
  split
  · exact law
  · split
    · exact law_deliver law _ _
    · exact law_modMu law _

theorem law_testOverdraw (law : Law s) (p inForce : Nat) (counting : Bool) : Law (s.testOverdraw x p inForce counting) := by
  unfold State.testOverdraw
  dsimp only
  split
  · next h =>
    split
    · exact law_modMu law _
    · have running : (s.outlet x).sc.state.running = true := by rw [h.2.1]; rfl
      obtain ⟨r, hr, -⟩ := (law.fits x).running running
      exact law_ordinaryStop (law_modMu law _) (by rw [State.modMu_sc]; exact hr) (by rw [State.modMu_sc]; exact running) _
  · exact law_modMu law _

theorem law_sample (law : Law s) (v i : BitVec 16) (vs is : Bool) : ∃ t, exec (.sample x v i vs is) s = .next t ∧ Law t := by
  show ∃ t, execSample x v i vs is s = .next t ∧ Law t
  unfold execSample
  split
  · refine ⟨_, rfl, ?_⟩
    unfold State.meterSample
    dsimp only
    refine law_testOverdraw ?_ _ _ _
    have summed : ∀ p, Law (s.modMu x fun m => { m with powerSum := m.powerSum + p, sampleCount := m.sampleCount + 1 }) :=
      fun p => law_modMu law _
    split
    · refine law_handCarry ?_ _
      split
      · exact law_modMu (law_modFlags (summed _) _) _
      · exact law_modMu (summed _) _
    · exact summed _
  · exact ⟨s, rfl, law⟩

theorem law_countPulse (law : Law s) (weight : Nat) : Law (s.countPulse x weight) := by
  have counted : Law (s.modMu x fun m => { m with windowPulse := m.windowPulse + weight }) := law_modMu law _
  unfold State.countPulse
  dsimp only
  split
  · unfold State.closeCrossCheck
    dsimp only
    split
    · exact law_modMu counted _
    · split
      · exact law_modMu counted _
      · have closed : Law (((s.modMu x fun m => { m with windowPulse := m.windowPulse + weight }).modMu x fun m =>
            { m with windowPulse := 0, windowSample := 0, disagree := 0 }).modFlags x fun f => { f with meterDisagree := true }) :=
          law_modFlags (law_modMu counted _) _
        exact law_sameOutlets closed
  · exact counted

theorem law_meterPulse (law : Law s) : ∃ t, exec (.meterPulse x) s = .next t ∧ Law t := by
  show ∃ t, execMeterPulse x s = .next t ∧ Law t
  have asserted : Law (s.modMu x fun m => { m with pulseAsserted := true }) := law_modMu law _
  unfold execMeterPulse
  split
  · dsimp only
    split
    · exact ⟨_, rfl, asserted⟩
    · split
      · split
        · exact ⟨_, rfl, law_countPulse (law_deliver asserted _ _) _⟩
        · exact ⟨_, rfl, law_deliver asserted _ _⟩
      · exact ⟨_, rfl, asserted⟩
  · exact ⟨s, rfl, law⟩

theorem law_pulseInputReleased (law : Law s) : ∃ t, exec (.pulseInputReleased x) s = .next t ∧ Law t := by
  show ∃ t, execPulseInputReleased x s = .next t ∧ Law t
  unfold execPulseInputReleased
  split
  · exact ⟨_, rfl, law_modMu law _⟩
  · exact ⟨s, rfl, law⟩

/-- Every event of an outlet's lines, messages and timers keeps the law. -/
theorem law_event {c : Instr} (hc : c.outletEvent = some x) (law : Law s) : ∃ t, exec c s = .next t ∧ Law t := by
  cases c <;> cases hc
  case sample v i vs is => exact law_sample law v i vs is
  case settled value => exact law_settled law value
  case orderTimerExpiry => exact law_orderTimerExpiry law
  case feedbackClosed => exact law_feedbackClosed law
  case feedbackOpen => exact law_feedbackOpen law
  case contactorTimerExpiry => exact law_contactorTimerExpiry law
  case plugInserted => exact law_plugInserted law
  case plugRemoved => exact law_plugRemoved law
  case meterPulse => exact law_meterPulse law
  case stageLost => exact law_stageLost law
  case noVehicle => exact law_noVehicle law
  case idleMinute => exact law_idleMinute law
  case pulseInputReleased => exact law_pulseInputReleased law

/-! ## A new session (R128) -/

/-- A session booked at a VACANT outlet: its outlet is in session once its state is set. -/
theorem bookSession_inSession (law : Law s) (hs : (s.outlet x).sc.state = .vacant) (r : SessionRecord) :
    InSession (s.bookSession x r) x r ∧ ((s.bookSession x r).outlet x).sc = { (s.outlet x).sc with session := some r, requested := 0 } ∧
    ((s.bookSession x r).outlet x).sp = (s.outlet x).sp ∧ ((s.bookSession x r).outlet x).mu = (s.outlet x).mu.openWindow ∧
    (s.bookSession x r).estop = s.estop ∧ (s.bookSession x r).cf = s.cf ∧
    ∀ y, y ≠ x → (s.bookSession x r).outlet y = s.outlet y := by
  have away : (s.outlet x).sc.state ≠ .outOfService := by rw [hs]; decide
  have sc : ((s.bookSession x r).outlet x).sc = { (s.outlet x).sc with session := some r, requested := 0 } := by
    cases x <;> rfl
  have sp : ((s.bookSession x r).outlet x).sp = (s.outlet x).sp := by cases x <;> rfl
  have mu : ((s.bookSession x r).outlet x).mu = (s.outlet x).mu.openWindow := by cases x <;> rfl
  have estop : (s.bookSession x r).estop = s.estop := by simp [State.bookSession]
  refine ⟨⟨by rw [sp]; exact (law.fits x).1, by rw [sp]; exact (law.fits x).notWelded away, by rw [sc],
    by rw [sc]; exact (law.fits x).openCheck away, by rw [sc]; exact stopped_of (law.fits x).awaitTimer (by rw [hs]; decide),
    by rw [sc]; exact stopped_of (law.fits x).idleTimer (by rw [hs]; decide), by rw [mu]; rfl,
    by rw [estop]; exact (law.inUse away).1⟩, sc, sp, mu, estop, (bookSession_frame s x r).1, fun y hy => ?_⟩
  unfold State.bookSession
  dsimp only
  rw [State.modMu_other _ _ _ _ hy, State.modSc_other _ _ _ _ hy]
  cases y <;> rfl

/-- In VACANT the contactor is OPEN. -/
theorem vacant_contactor (law : Law s) (hs : (s.outlet x).sc.state = .vacant) : (s.outlet x).sp.contactor = .isOpen := by
  have fits := (law.fits x).contactor
  rw [hs] at fits
  cases hc : (s.outlet x).sp.contactor <;> rw [hc] at fits <;> first | rfl | exact absurd fits (by simp [contactorFits])

/-- AWAIT_PLUG entered with its timer running (R130). -/
theorem await_outlet (h : (s.outlet x).sc.state ≠ .awaitPlug) :
    (((s.enter x .awaitPlug).modSc x fun c => { c with awaitTimer := true }).outlet x).sc =
      { (s.outlet x).sc with state := .awaitPlug, awaitTimer := true } ∧
    (((s.enter x .awaitPlug).modSc x fun c => { c with awaitTimer := true }).outlet x).mu = { (s.outlet x).mu with silenceTimer := false } ∧
    (((s.enter x .awaitPlug).modSc x fun c => { c with awaitTimer := true }).outlet x).sp = (s.outlet x).sp := by
  refine ⟨by rw [State.modSc_same, enter_sc], ?_, by simp⟩
  rw [State.modSc_mu, enter_mu, if_neg h]; rfl

theorem fits_of_placeSession {r : SessionRecord} (inside : InSession s x r) (hs : (s.outlet x).sc.state = .vacant)
    (hend : r.endReason = none) (hc : (s.outlet x).sp.contactor = .isOpen) : Fits ((s.placeSession x).outlet x) := by
  unfold State.placeSession
  split
  · obtain ⟨sc, mu, sp⟩ := await_outlet (s := s) (x := x) (by rw [hs]; decide)
    refine ⟨by rw [sp]; exact inside.stage, ?_⟩
    simp only [OutletRecord.Lawful, sc, mu, sp, hc, inside.session, inside.openCheck, inside.idleTimer, inside.window]
    simp [contactorFits, hend]
  · split
    · exact fits_of_held inside hend hc (hold_held (by rw [hs]; decide))
    · exact fits_of_connect inside hend (by rw [hs]; decide) (by rw [hs]; decide) (.inl hc)

theorem law_opened (law : Law s) (h : Opened s t) : Law t := by
  obtain ⟨x, data, bank, tariff, hf, hs, -, -, -, rfl⟩ := h.opened
  obtain ⟨inside, sc, sp, -, hestop, hcf, other⟩ := bookSession_inSession law hs (s.newRecord x data bank tariff)
  have work := placeSession_work (s.bookSession x (s.newRecord x data bank tariff)) x
  have released := (law.inUse (by rw [hs]; decide : (s.outlet x).sc.state ≠ .outOfService)).1
  have fits := fits_of_placeSession inside (by rw [sc]; exact hs) rfl (by rw [sp]; exact vacant_contactor law hs)
  refine ⟨fun y => ?_, fun g => ?_, fun y hy => ?_⟩
  · by_cases h : y = x
    · rw [h]; exact fits
    · rw [work.other y h, other y h]; exact law.fits y
  · rw [work.estop, hestop, released] at g; cases g
  · rw [fitted_of_cf (work.cf.trans hcf)] at hy
    by_cases h : y = x
    · rw [h, hf] at hy; cases hy
    · rw [work.other y h, other y h]; exact law.absent y hy

/-! ## The commands of the link -/

theorem law_demand (law : Law s) (data : List Byte) : Law (demandCommand data s).state := by
  unfold demandCommand
  split
  · exact law
  · next x _ =>
    split
    · exact law
    · split
      · exact law
      · split
        · have work := modSc_work s x (fun c => { c with requested := min (field data 1 2) (s.rating x) }) (by intro; rfl)
          have requested : Law (s.modSc x fun c => { c with requested := min (field data 1 2) (s.rating x) }) :=
            law_of_port law work {}
          exact requested
        · exact law

theorem law_stopSessionAt (law : Law s) (reason : Nat) : Law (s.stopSessionAt x reason).state := by
  unfold State.stopSessionAt
  have running : (s.outlet x).sc.state.running = true → Law (s.ordinaryStop x reason) := fun h =>
    let ⟨_, hr, _⟩ := (law.fits x).running h
    law_ordinaryStop law hr h reason
  cases hs : (s.outlet x).sc.state with
  | awaitPlug =>
    obtain ⟨r, hr, -⟩ := (law.fits x).awaitPlug hs
    exact law_endAndSettle law hr (.inl hs) reason
  | connecting => exact running (by rw [hs]; rfl)
  | energising => exact running (by rw [hs]; rfl)
  | suspended => exact running (by rw [hs]; rfl)
  | closing => exact law
  | idle => exact law
  | vacant => exact law
  | outOfService => exact law

/-! ## The hard reset (R106, R124, R149) -/

theorem fits_of_sampled (source : BillingSource) (estop feedback plug pulse : Bool) :
    Fits (OutletRecord.sampled source estop feedback plug pulse) := by
  cases estop <;> cases feedback <;> constructor <;>
    simp [StageOutlet.Lawful, OutletRecord.Lawful, OutletRecord.sampled, StageOutlet.sampled, StageOutlet.afterReset, SessionOutlet.afterReset, MeterOutlet.afterReset, contactorFits]

theorem fits_of_absent : Fits OutletRecord.absent := by
  constructor <;> decide

theorem law_hardReset {pins : StrapPins} {levels : InputLevels} (h : exec (.hardReset pins levels) s = .next t) : Law t := by
  simp only [exec, execHardReset] at h
  cases h
  have state : ∀ feedback plug pulse, levels.emergencyStop = true →
      (OutletRecord.sampled (Straps.ofPins pins).source levels.emergencyStop feedback plug pulse).sc.state = .outOfService := by
    intro feedback plug pulse g
    simp [OutletRecord.sampled, SessionOutlet.afterReset, g]
  refine ⟨fun x => ?_, fun g x => ?_, fun x g => ?_⟩
  · cases x with
    | a => exact fits_of_sampled _ _ _ _ _
    | b =>
      show Fits (if _ then _ else _)
      split
      · exact fits_of_sampled _ _ _ _ _
      · exact fits_of_absent
  · cases x with
    | a => exact state _ _ _ g
    | b =>
      show (OutletRecord.sc (if _ then _ else _)).state = _
      split
      · exact state _ _ _ g
      · rfl
  · cases x with
    | a => cases g
    | b =>
      have single : (Straps.ofPins pins).twoOutlets = false := g
      show (OutletRecord.sc (if (Straps.ofPins pins).twoOutlets then _ else _)).state = _ ∧
        (OutletRecord.sc (if (Straps.ofPins pins).twoOutlets then _ else _)).session = _
      rw [single]
      exact ⟨rfl, rfl⟩

end

/-! ## Every step -/

theorem law_keptByOperations : KeptByOperations Law where
  same same law := law_sameOutlets law same.outA same.outB same.estop same.straps
  reset := law_hardReset
  orderZero _ _ law := law_order law 0 fun _ _ => rfl
  suspend _ _ := law_suspend
  resume _ _ := law_resume
  clash _ _ := law_clashOutlet
  ceiling _ _ c bound law := law_giveCeiling law c bound
  draw _ _ law := law_modMu law _
  stop _ := law_stop
  release _ hestop law := law_release law hestop
  restart _ := law_restart
  event hc h law := by
    obtain ⟨u, hu, kept⟩ := law_event hc law
    rw [hu] at h
    cases h
    exact kept
  stepClock _ _ law := law_modFlags law _
  load s data law := by
    unfold loadTariffCommand
    split
    · exact law
    · split
      · exact law
      · exact law_sameOutlets law
  opened h law := law_opened law h
  demand _ data law := law_demand law data
  stopSession _ _ reason _ law := law_stopSessionAt law reason
  released _ law := law_sameOutlets law

/-- Settles O52: every operation keeps the law of the outlets, and every command the ranges. -/
theorem stepKeepsOutletLaw : Obligations.StepKeepsOutletLaw := by
  intro s t h
  refine ⟨fun law => (outletLaw_iff t).2 (law_keptByOperations.step h ((outletLaw_iff s).1 law)), fun law => ?_⟩
  unfold step at h
  split at h
  · cases h; exact law
  · exact exec_keeps_rangeLaw h law

end Sys2Proof.Proofs.OutletLawSteps
end

section
/-! The emergency stop and the number clash at both outlets, as their statements say (R103, R104, R145, R19, R75, R139). -/

namespace Sys2Proof.Proofs.StopAndClash

open Machine OutletOperations StationWork ShareLaw Stopping OutletLaws OutletLawKept StopAndRestart StationWide StageEvents ContactorEvents
  PlugEvents

section
variable {s t : State} {x : Outlet}

/-! ## The SETPOINT messages of a stop at both outlets -/

/-- The SETPOINT message that an order of 0 sends for a fitted outlet. -/
def zeroSent (s : State) (x : Outlet) : List Setpoint :=
  if s.fitted x = false ∨ (s.outlet x).sp.ordered = 0 then [] else [{ outlet := x, value := 0 }]

theorem zeroSent_a (s : State) : zeroSent s .a = if s.outA.sp.ordered = 0 then [] else [{ outlet := .a, value := 0 }] := by
  unfold zeroSent
  rw [show s.fitted .a = true from rfl]
  simp

theorem zeroSent_congr (hout : t.outlet x = s.outlet x) (hcf : t.cf = s.cf) : zeroSent t x = zeroSent s x := by
  unfold zeroSent
  rw [hout, fitted_of_cf hcf]

theorem setpointsAfterZero_eq (s : State) (x : Outlet) :
    s.setpointsAfterZero x = s.stageTx ++ if (s.outlet x).sp.ordered = 0 then [] else [{ outlet := x, value := 0 }] := by
  unfold State.setpointsAfterZero
  split <;> simp

theorem order_zero_fitted (hf : s.fitted x = true) : (s.order x 0).stageTx = s.stageTx ++ zeroSent s x := by
  rw [order_zero_stageTx, setpointsAfterZero_eq, zeroSent, hf]
  simp

theorem stopStage_stageTx : (s.stopStage x).stageTx = s.stageTx ++ zeroSent s x := by
  by_cases hf : s.fitted x = true
  · unfold State.stopStage
    rw [if_pos hf, ← order_zero_fitted hf]
    simp
  · rw [stopStage_absent _ _ hf, zeroSent, if_pos (.inl (Bool.eq_false_iff.2 hf)), List.append_nil]

theorem restartStage_stageTx : (s.restartStage x).stageTx = s.stageTx ++ zeroSent s x := by
  by_cases hf : s.fitted x = true
  · unfold State.restartStage
    rw [if_pos hf, ← order_zero_fitted hf]
    simp
  · rw [restartStage_absent _ _ hf, zeroSent, if_pos (.inl (Bool.eq_false_iff.2 hf)), List.append_nil]

theorem stopOutlet_stageTx : (s.stopOutlet x).stageTx = s.stageTx := by
  unfold State.stopOutlet State.stopOpening
  split <;> first | (split <;> simp) | simp

/-! ## The emergency stop (R103, R145) -/

theorem exec_emergencyStopAsserted (h : s.estop = false) :
    exec .emergencyStopAsserted s = .next (((portsStopped s).stopOutlet .a).stopOutlet .b) := if_neg (by rw [h]; decide)

/-- What the emergency stop makes of one outlet, in the states around its own steps. -/
theorem stopBoth_at (law : Law s) (x : Outlet) : ∃ v w, v.outlet x = (portsStopped s).outlet x ∧ v.cf = s.cf ∧ Stopped v w x ∧
    (((portsStopped s).stopOutlet .a).stopOutlet .b).outlet x = w.outlet x ∧
    w.sq.queue <+: (((portsStopped s).stopOutlet .a).stopOutlet .b).sq.queue := by
  obtain ⟨-, hcf, -⟩ := portsStopped_frame law
  obtain ⟨u, t, rfl, rfl, stopA, stopB, sameA, sameB, ucf, -, -⟩ := stopBoth_stopped law
  cases x with
  | a => exact ⟨_, _, rfl, hcf, stopA, sameA, (stopOutlet_work _ .b).queue⟩
  | b => exact ⟨_, _, sameB, ucf, stopB, rfl, List.prefix_rfl⟩

theorem stopped_settles (law : Law s) : Settles s (((portsStopped s).stopOutlet .a).stopOutlet .b)
    ([Outlet.a, Outlet.b].filterMap fun x => if (s.outlet x).sp.feedbackClosed = false then
      (s.outlet x).sc.session.map fun r => { r with endReason := some 138 } else none) := by
  obtain ⟨-, hcf, hsq, hts, outlets⟩ := portsStopped_frame law
  obtain ⟨u, t, rfl, rfl, stopA, stopB, -, sameB, ucf, -, -⟩ := stopBoth_stopped law
  obtain ⟨scA, -, quietA, -⟩ := outlets .a
  obtain ⟨scB, -, quietB, -⟩ := outlets .b
  have settlesA := stopA.settles
  have settlesB := stopB.settles
  rw [scA, quietA.feedback] at settlesA
  have sameB : ((portsStopped s).stopOutlet .a).outlet .b = (portsStopped s).outlet .b := sameB
  rw [sameB, scB, quietB.feedback] at settlesB
  rw [filterMap_outlets]
  simpa using ((Settles.nothing hsq hts).trans settlesA hcf).trans settlesB ucf

theorem releaseOutlet_frame : (s.releaseOutlet x).ts = s.ts ∧ (s.releaseOutlet x).sq = s.sq ∧ (s.releaseOutlet x).stageTx = s.stageTx := by
  unfold State.releaseOutlet
  split
  · dsimp only
    split <;> simp
  · exact ⟨rfl, rfl, rfl⟩

theorem unweld_of_open {o : StageOutlet} (h : o.contactor = .isOpen) : o.unweld = o := if_neg (by rw [h]; simp)

theorem unweld_of_welded {o : StageOutlet} (lawful : o.Lawful) (h : o.contactor = .welded) (hf : o.feedbackClosed = false)
    (zero : o.ordered = 0) : o.unweld = { o with
      contactor := .isOpen, confirmed := 0, isConfirmed := true, orderTimer := if o.orderTimer = .expired then .expired else .stopped } := by
  have drive := drive_released lawful (.inr (.inr h))
  obtain ⟨-, timer, -⟩ := lawful
  have stopped := stopped_of timer (by rw [h]; simp)
  rw [StageOutlet.unweld, if_pos ⟨h, hf⟩, StageOutlet.confirmOpen, zero, OrderTimer.onConfirmation_eq]
  simp [drive, stopped]

/-- Settles O20: the emergency stop takes every outlet OUT_OF_SERVICE, and its release returns the open ones. -/
theorem emergencyStop : Obligations.EmergencyStop := by
  intro s law
  have laws := (outletLaw_iff s).1 law
  refine ⟨fun h => if_pos h, fun h => ?_, fun h settled hsettled => ?_, fun h => if_neg (by rw [h]; decide), fun h => ?_⟩
  · have work := stopBoth_work { s with estop := true }
    obtain ⟨-, -, -, -, outlets⟩ := portsStopped_frame laws
    refine ⟨_, exec_emergencyStopAsserted h, work.eq, ?_, fun x => ?_⟩
    · have out := (stopStage_work { s with estop := true } .a).other .b (by decide)
      have sentB := zeroSent_congr out (stopStage_work { s with estop := true } .a).cf
      rw [stopOutlet_stageTx, stopOutlet_stageTx, portsStopped, stopStage_stageTx, stopStage_stageTx, sentB, zeroSent_a]
      rfl
    · obtain ⟨v, w, before, vcf, stopped, after, queue⟩ := stopBoth_at laws x
      obtain ⟨sc, mu, quiet, ordered⟩ := outlets x
      rw [after]
      have port := stopped.port
      rw [before] at port
      obtain ⟨-, present, -⟩ := stopped.fits.outOfService stopped.state
      refine ⟨stopped.state, by rw [port]; exact quiet.drive, fun hf => by rw [port]; exact ordered hf, present, fun has => ?_⟩
      obtain ⟨r, hr⟩ := Option.isSome_iff_exists.1 has
      have vsession : (v.outlet x).sc.session = some r := by rw [before, sc]; exact hr
      have vfeedback : (v.outlet x).sp.feedbackClosed = (s.outlet x).sp.feedbackClosed := by rw [before, quiet.feedback]
      by_cases closed : (s.outlet x).sp.feedbackClosed = true
      · obtain ⟨check, contactor, session⟩ := stopped.waits r vsession (vfeedback.trans closed)
        refine ⟨by simp [check, closed], fun _ => ⟨contactor, by rw [session, hr]; rfl⟩, fun g => ?_⟩
        rw [check] at g; cases g
      · have opened := Bool.eq_false_iff.2 closed
        obtain ⟨hsc, hmu⟩ := stopped.settled r vsession (vfeedback.trans opened)
        have check : (w.outlet x).sc.openCheck = false := by rw [hsc]; rfl
        refine ⟨by simp [check, opened], fun g => absurd (check.symm.trans g) (by decide), fun _ => ⟨hsc, ?_, ?_⟩⟩
        · rw [hmu, before, mu]; rfl
        · have settles := stopped.settles.sq
          rw [vsession, vfeedback, opened] at settles
          refine ⟨v.settlementOf { r with endReason := some 138 }, queue.subset ?_, rfl, by rw [hr]; rfl⟩
          rw [settles]
          simp
  · obtain ⟨hsq, hts⟩ := stopped_settles laws
    rw [← hsettled] at hsq hts
    exact ⟨_, exec_emergencyStopAsserted h, hsq, hts⟩
  · have work := (releaseOutlet_work { s with estop := false } .a).toOutletsWork.trans (releaseOutlet_work _ .b).toOutletsWork
    obtain ⟨tsA, sqA, txA⟩ := releaseOutlet_frame (s := { s with estop := false }) (x := .a)
    obtain ⟨tsB, sqB, txB⟩ := releaseOutlet_frame (s := { s with estop := false }.releaseOutlet .a) (x := .b)
    have shape := work.eq
    rw [tsB, sqB, txB, tsA, sqA, txA] at shape
    refine ⟨_, if_pos h, shape, fun x => ?_⟩
    have same : State.outlet { s with estop := false } x = s.outlet x := s.outlet_with_estop x false
    obtain ⟨back, stays⟩ := releaseBoth_cases (s := { s with estop := false }) (x := x) (by rw [same]; exact laws.fits x)
      (by rw [same]; exact laws.stopped h x)
    have returns : Returns { s with estop := false } x ↔ Returns s x := by unfold Returns; rw [same]; rfl
    by_cases hr : Returns s x
    · obtain ⟨⟨hsc, hmu, hsp, hpending⟩, -⟩ := back (returns.2 hr)
      rw [same] at hsc hmu hsp
      have contactor : (s.outlet x).sp.unweld.contactor = .isOpen := by
        obtain ⟨-, g | g⟩ := hr
        · rw [unweld_of_open g]; exact g
        · rw [StageOutlet.unweld, if_pos g]; rfl
      rw [if_pos hr]
      refine ⟨hsc, by rw [hsp]; exact contactor, hmu, fun g => by rw [hsp, unweld_of_open g], fun g zero => ?_, hpending⟩
      obtain ⟨-, g' | ⟨-, open_⟩⟩ := hr
      · rw [g] at g'; cases g'
      · rw [hsp, unweld_of_welded (laws.fits x).1 g open_ zero]
    · rw [if_neg hr, stays fun g => hr (returns.1 g), same]

/-! ## The number clash at one outlet (R139) -/

/-- What a number clash makes of an outlet whose order is 0. -/
structure Clashed (s t : State) (x : Outlet) : Prop where
  port : (t.outlet x).sp.ordered = 0
  outOfService : (s.outlet x).sc.state = .outOfService → (t.outlet x).sc = (s.outlet x).sc
  gone : (s.outlet x).sc.state ≠ .outOfService → (t.outlet x).sc.state = .vacant ∨
    ((t.outlet x).sc.state = .closing ∧ (t.outlet x).sc.step = .openStep ∧
      (t.outlet x).sc.session.bind SessionRecord.endReason = some 139)
  waits : ∀ r, (s.outlet x).sc.session = some r → (s.outlet x).sc.state ≠ .outOfService → (s.outlet x).sp.feedbackClosed = true →
    (t.outlet x).sc.state = .closing ∧ (t.outlet x).sc.step = .openStep ∧ (t.outlet x).sp.contactor = .openWait ∧
    (t.outlet x).sc.session = some { r with endReason := some 139 } ∧ (t.outlet x).mu = { (s.outlet x).mu with silenceTimer := false }
  settled : ∀ r, (s.outlet x).sc.session = some r → (s.outlet x).sc.state ≠ .outOfService → (s.outlet x).sp.feedbackClosed = false →
    (t.outlet x).sp.contactor = .isOpen ∧ (t.outlet x).sc = SessionOutlet.afterReset .vacant ∧
    (t.outlet x).mu = { (s.outlet x).mu.closeWindow with silenceTimer := false }
  settles : Settles s t (if (s.outlet x).sc.state ≠ .outOfService ∧ (s.outlet x).sp.feedbackClosed = false then
    (s.outlet x).sc.session.map fun r => { r with endReason := some 139 } else none).toList

/-- A session that the clash has settled. -/
theorem clashed_of_settledAs {r : SessionRecord} (hr : (s.outlet x).sc.session = some r) (hs : (s.outlet x).sc.state ≠ .outOfService)
    (hf : (s.outlet x).sp.feedbackClosed = false) (contactor : (t.outlet x).sp.contactor = .isOpen) (ordered : (t.outlet x).sp.ordered = 0)
    (h : SettledAs s t x { r with endReason := some 139 } .vacant) : Clashed s t x := by
  have settles := settles_of_settledAs h
  obtain ⟨-, -, hsc, hmu⟩ := h
  refine ⟨ordered, fun g => absurd g hs, fun _ => .inl (by rw [hsc]; rfl), fun _ _ _ g => absurd (hf.symm.trans g) (by decide),
    fun _ _ _ _ => ⟨contactor, hsc, hmu⟩, ?_⟩
  simpa [hr, hs, hf] using settles

/-- A session that the clash has ended, whose contactor is waited for. -/
theorem clashed_of_waiting {r : SessionRecord} (hr : (s.outlet x).sc.session = some r) (hs : (s.outlet x).sc.state ≠ .outOfService)
    (hf : (s.outlet x).sp.feedbackClosed = true) (ordered : (t.outlet x).sp.ordered = 0) (contactor : (t.outlet x).sp.contactor = .openWait)
    (state : (t.outlet x).sc.state = .closing) (step : (t.outlet x).sc.step = .openStep)
    (session : (t.outlet x).sc.session = some { r with endReason := some 139 })
    (mu : (t.outlet x).mu = { (s.outlet x).mu with silenceTimer := false }) (hsq : t.sq = s.sq) (hts : t.ts = s.ts) : Clashed s t x := by
  refine ⟨ordered, fun g => absurd g hs, fun _ => .inr ⟨state, step, by rw [session]; rfl⟩, fun r' hr' _ _ => ?_,
    fun _ _ _ g => absurd (hf.symm.trans g) (by decide), ?_⟩
  · rw [hr] at hr'
    cases hr'
    exact ⟨state, step, contactor, session, mu⟩
  · rw [if_neg fun g => absurd (hf.symm.trans g.2) (by decide)]
    exact .nothing hsq hts

theorem settledAs_of_closingLeft {r : SessionRecord} (h : r.endReason = some 139) (left : ClosingLeft s t x r) :
    (t.outlet x).sp.contactor = .isOpen ∧ SettledAs s t x r .vacant := by
  obtain ⟨contactor, -, -, rest⟩ := left
  rw [if_neg fun g => g.2.2.2 h] at rest
  exact ⟨contactor, rest⟩

theorem clashed_running (law : Law s) (running : (s.outlet x).sc.state.running = true) :
    Clashed s (s.quickStop x EndReason.numberClash) x := by
  obtain ⟨r, hr, -⟩ := (law.fits x).running running
  obtain ⟨stopped, -⟩ := quickStop_spec EndReason.numberClash (law.inSession hr (.inl running)) (not_closing_of_running running)
  have away := not_outOfService_of_running running
  obtain ⟨-, -, -, -, -, ordered, -, -, rest⟩ := stopped
  split at rest
  · next hf =>
    obtain ⟨contactor, -, state, step, session, mu, hsq, hts⟩ := rest
    exact clashed_of_waiting hr away hf ordered contactor state step session mu hsq hts
  · next hf =>
    obtain ⟨contactor, settled⟩ := settledAs_of_closingLeft rfl rest
    exact clashed_of_settledAs hr away (Bool.eq_false_iff.2 hf) contactor ordered settled

theorem clashed_closing (law : Law s) (hs : (s.outlet x).sc.state = .closing) (zero : (s.outlet x).sp.ordered = 0) :
    Clashed s ((s.endWith x EndReason.numberClash).endRampDown x) x := by
  obtain ⟨r, hr, hend⟩ := (law.fits x).ended (.inl hs)
  have away : (s.outlet x).sc.state ≠ .outOfService := by rw [hs]; decide
  have quiet := stopped_of (law.fits x).silenceTimer (by rw [hs]; decide)
  have silent : { (s.outlet x).mu with silenceTimer := false } = (s.outlet x).mu := by rw [← quiet]
  have sc : ((s.endWith x EndReason.numberClash).outlet x).sc = { (s.outlet x).sc with session := some { r with endReason := some 139 } } := by
    rw [endWith_sc, hr]; rfl
  by_cases hstep : (s.outlet x).sc.step = .rampDown
  · have inside := inSession_endWith (law.inSession hr (.inr hs)) EndReason.numberClash
    obtain ⟨-, hsp, rest⟩ := endRampDown_spec inside (by rw [sc]; exact hs) (by rw [sc]; exact hstep)
    rw [State.endWith_sp] at hsp rest
    have ordered : (((s.endWith x EndReason.numberClash).endRampDown x).outlet x).sp.ordered = 0 := by
      rw [hsp]; exact (openCommanded_lines _).2.2.1
    split at rest
    · next hf =>
      obtain ⟨hsc, hmu, hsq, hts⟩ := rest
      have contactor : (openCommanded (s.outlet x).sp).contactor = .openWait := by unfold openCommanded; rw [if_pos hf]
      refine clashed_of_waiting hr away hf ordered (by rw [hsp, contactor]) (by rw [hsc, sc]; exact hs) (by rw [hsc])
        (by rw [hsc, sc]) ?_ (hsq.trans (by simp)) (hts.trans (by simp))
      rw [hmu, State.endWith_mu, silent]
    · next hf =>
      have left := closingLeft_of_left inside.session (by rw [State.endWith_sp]; exact hf) (by rw [State.endWith_sp]; exact hsp) rest
      obtain ⟨contactor, settled⟩ := settledAs_of_closingLeft rfl left
      exact clashed_of_settledAs hr away (Bool.eq_false_iff.2 hf) contactor ordered
        (settledAs_of_eq (by simp) (by simp) (by simp) (by simp) settled)
  · have hstep : (s.outlet x).sc.step = .openStep := by cases h : (s.outlet x).sc.step <;> first | rfl | exact absurd h hstep
    have fits := (law.fits x).contactor
    have contactor : (s.outlet x).sp.contactor = .openWait := by
      rw [hs, hstep] at fits
      cases hc : (s.outlet x).sp.contactor <;> rw [hc] at fits <;> first | rfl | exact absurd fits (by simp [contactorFits])
    rw [endRampDown_elsewhere (.inr (by rw [sc, hstep]; decide))]
    exact clashed_of_waiting hr away (feedback_closed (law.fits x).1 (.inr contactor)) (by rw [State.endWith_sp]; exact zero)
      (by rw [State.endWith_sp]; exact contactor) (by rw [sc]; exact hs) (by rw [sc]; exact hstep) (by rw [sc])
      (by rw [State.endWith_mu, silent]) (by simp) (by simp)

theorem clashOutlet_clashed (law : Law s) (zero : (s.outlet x).sp.ordered = 0) : Clashed s (s.clashOutlet x) x := by
  have waiting : ∀ r, (s.outlet x).sc.session = some r → (s.outlet x).sc.state = .awaitPlug ∨ (s.outlet x).sc.state = .idle →
      Clashed s (s.endAndSettle x EndReason.numberClash) x := fun r hr hs => by
    have away : (s.outlet x).sc.state ≠ .outOfService := by obtain g | g := hs <;> rw [g] <;> decide
    have moved : (s.outlet x).sc.state ≠ .vacant := by obtain g | g := hs <;> rw [g] <;> decide
    have opened := waiting_contactor law hs
    exact clashed_of_settledAs hr away (feedback_open (law.fits x).1 (.inl opened)) (by simpa using opened) (by simpa using zero)
      (endAndSettle_settledAs _ hr (by rw [(law.inUse away).1]; rfl) moved)
  unfold State.clashOutlet
  cases hs : (s.outlet x).sc.state with
  | connecting => exact clashed_running law (by rw [hs]; rfl)
  | energising => exact clashed_running law (by rw [hs]; rfl)
  | suspended => exact clashed_running law (by rw [hs]; rfl)
  | closing => exact clashed_closing law hs zero
  | awaitPlug => obtain ⟨r, hr, -⟩ := (law.fits x).awaitPlug hs; exact waiting r hr (.inl hs)
  | idle => obtain ⟨r, hr, -⟩ := (law.fits x).ended (.inr hs); exact waiting r hr (.inr hs)
  | vacant =>
    have none := (law.fits x).vacant hs
    refine ⟨zero, fun _ => rfl, fun _ => .inl hs, fun r hr => absurd (none.symm.trans hr) (by simp),
      fun r hr => absurd (none.symm.trans hr) (by simp), ?_⟩
    rw [none]
    simpa using Settles.nothing (s := s) (t := s) rfl rfl
  | outOfService =>
    refine ⟨zero, fun _ => rfl, fun g => absurd hs g, fun _ _ g => absurd hs g, fun _ _ g => absurd hs g, ?_⟩
    rw [if_neg fun g => g.1 hs]
    exact .nothing rfl rfl

/-! ## The number clash (R19, R20, R75) -/

/-- The state in which the session controller takes the clash: BARRED, the slots empty and both orders 0. -/
def barredState (s : State) : State :=
  let t := { s with li := { s.li.emptySlots with activity := .quiet } }.raise .clash
  { t with se := { t.se with state := .barred, ceiling := 0, claim := 0, timer := 0, failed := 0 } }

theorem clash_eq (s : State) : s.clash = (((barredState s).orderZeroBoth.raise .share).clashOutlet .a).clashOutlet .b := rfl

theorem law_barred (law : Law s) : Law ((barredState s).orderZeroBoth.raise .share) := by
  have barred : Law (barredState s) := law_sameOutlets law
  have ordered : Law (barredState s).orderZeroBoth := law_order (law_order barred 0 fun _ _ => rfl) 0 fun _ _ => rfl
  exact law_sameOutlets ordered

theorem orderZeroBoth_outlet (s : State) (x : Outlet) : (s.orderZeroBoth.outlet x).sp = (s.outlet x).sp.orderedZero ∧
    (s.orderZeroBoth.outlet x).mu = (s.outlet x).mu ∧ (s.orderZeroBoth.outlet x).sc = (s.outlet x).sc := by
  obtain ⟨v, same, -, -, out, -⟩ := both_outlet (fun u y => u.order y 0) (fun u y => order_work u y 0) s x
  unfold State.orderZeroBoth
  rw [out, order_zero_sp, State.order_mu, State.order_sc, same]
  exact ⟨rfl, rfl, rfl⟩

theorem orderZeroBoth_book (s : State) : s.orderZeroBoth.sq = s.sq ∧ s.orderZeroBoth.ts = s.ts := by
  unfold State.orderZeroBoth
  simp

/-- R139 at both outlets. -/
structure ClashedBoth (s t : State) : Prop where
  eq : t = { s with
    li := { s.li.emptySlots with activity := .quiet }, se := { s.se with state := .barred, ceiling := 0, claim := 0, timer := 0, failed := 0 }
    outA := t.outA, outB := t.outB, stageTx := t.stageTx, ts := t.ts, sq := t.sq, pk := { s.pk with edge := t.pk.edge } }
  clash : t.isPending .clash = true
  share : t.isPending .share = true
  outlets : ∀ x, ∃ v w, (v.outlet x).sp = (s.outlet x).sp.orderedZero ∧ (v.outlet x).mu = (s.outlet x).mu ∧
    (v.outlet x).sc = (s.outlet x).sc ∧ Clashed v w x ∧ t.outlet x = w.outlet x
  settles : Settles s t ([Outlet.a, Outlet.b].filterMap fun x =>
    if (s.outlet x).sc.state ≠ .outOfService ∧ (s.outlet x).sp.feedbackClosed = false then
      (s.outlet x).sc.session.map fun r => { r with endReason := some 139 } else none)

theorem clash_clashedBoth (law : Law s) : ClashedBoth s s.clash := by
  have lawU := law_barred law
  have outlets := orderZeroBoth_outlet (barredState s)
  obtain ⟨bookSq, bookTs⟩ := orderZeroBoth_book (barredState s)
  have cf : (barredState s).orderZeroBoth.cf = s.cf := (orderZeroBoth_work (barredState s)).cf
  have raisesOrders : Raises (barredState s) (barredState s).orderZeroBoth := (order_raises _ .a 0).trans (order_raises _ .b 0)
  have hclash : (barredState s).isPending .clash = true := raise_pending { s with li := { s.li.emptySlots with activity := .quiet } } .clash
  have work : OutletsWork (barredState s) s.clash :=
    (((orderZeroBoth_work (barredState s)).trans (raise_work _ .a _).toOutletsWork).trans (clashOutlet_work _ .a).toOutletsWork).trans
      (clashOutlet_work _ .b).toOutletsWork
  have shape := work.eq
  rw [clash_eq] at shape ⊢
  generalize hu : (barredState s).orderZeroBoth.raise .share = u at *
  have uOutlet : ∀ x, (u.outlet x).sp = (s.outlet x).sp.orderedZero ∧ (u.outlet x).mu = (s.outlet x).mu ∧ (u.outlet x).sc = (s.outlet x).sc :=
    fun x => by
      have same : (barredState s).outlet x = s.outlet x := outlet_congr rfl rfl x
      have := outlets x
      rw [same] at this
      rw [← hu, State.raise_outlet]
      exact this
  have usq : u.sq = s.sq := by rw [← hu]; exact bookSq
  have uts : u.ts = s.ts := by rw [← hu]; exact bookTs
  have ucf : u.cf = s.cf := by rw [← hu]; exact cf
  have zero : ∀ x, (u.outlet x).sp.ordered = 0 := fun x => by rw [(uOutlet x).1]; exact orderedZero_ordered _
  have workA := clashOutlet_work u .a
  have other := workA.other .b (by decide)
  have atA := clashOutlet_clashed (x := .a) lawU (zero .a)
  have atB := clashOutlet_clashed (x := .b) (law_clashOutlet (x := .a) lawU) (by rw [other]; exact zero .b)
  have raises : Raises u ((u.clashOutlet .a).clashOutlet .b) := (clashOutlet_raises u .a).trans (clashOutlet_raises _ .b)
  refine ⟨shape, raises _ ?_, raises _ ?_, fun x => ?_, ?_⟩
  · rw [← hu]; exact raise_raises _ _ _ (raisesOrders _ hclash)
  · rw [← hu]; exact raise_pending _ _
  · cases x with
    | a => exact ⟨u, _, (uOutlet .a).1, (uOutlet .a).2.1, (uOutlet .a).2.2, atA, (clashOutlet_work _ .b).other .a (by decide)⟩
    | b => exact ⟨_, _, by rw [other]; exact (uOutlet .b).1, by rw [other]; exact (uOutlet .b).2.1, by rw [other]; exact (uOutlet .b).2.2, atB, rfl⟩
  · have settlesA := atA.settles
    have settlesB := atB.settles
    obtain ⟨spA, -, scA⟩ := uOutlet .a
    obtain ⟨spB, -, scB⟩ := uOutlet .b
    rw [spA, scA, (orderedZero_lines _).2.1] at settlesA
    rw [other, spB, scB, (orderedZero_lines _).2.1] at settlesB
    rw [filterMap_outlets]
    simpa using ((Settles.nothing usq uts).trans settlesA ucf).trans settlesB (workA.cf.trans ucf)

/-! ## NUMBER_CLASH -/

theorem exec_numberClash_barred (h : s.se.state = .barred) (cell : Option Nat) : exec (.numberClash cell) s = .next s := if_pos h

theorem exec_numberClash_heard (h : s.se.state ≠ .barred) : exec (.numberClash none) s = .next s.clash := if_neg h

/-- LI after the cells up to the one in which a clash is found. -/
def clashCells (s : State) (bytes : List Byte) (n : Nat) : State := { s with li := s.li.afterCells (cellsUntil bytes n .dominant) }

theorem comparesPastHeader_iff (bytes : List Byte) (n : Nat) :
    comparesPastHeader bytes n = true ↔ 10 ≤ n ∧ n % 10 ≠ 9 ∧ (frameCells bytes)[n]? = some .recessive := by
  simp [comparesPastHeader, sends, and_assoc]

theorem exec_numberClash_cell (h : s.se.state ≠ .barred) {bytes : List Byte} {n : Nat} (hc : ClashCell s bytes n) :
    exec (.numberClash (some n)) s = .next (clashCells s bytes n).clash := by
  obtain ⟨⟨k, r, hsend⟩, cell⟩ := hc
  show execNumberClash s (some n) = _
  unfold execNumberClash
  rw [if_neg h, hsend]
  dsimp only
  rw [if_pos ((comparesPastHeader_iff bytes n).2 cell)]
  rfl

theorem exec_numberClash_elsewhere {n : Nat} (hc : ∀ bytes, ¬ ClashCell s bytes n) : exec (.numberClash (some n)) s = .next s := by
  show execNumberClash s (some n) = _
  unfold execNumberClash
  split
  · rfl
  · dsimp only
    split
    · next k bytes r hsend =>
      rw [if_neg fun g => hc bytes ⟨⟨k, r, hsend⟩, (comparesPastHeader_iff bytes n).1 g⟩]
    · rfl
    · rfl

theorem runOf_cellsUntil (bytes : List Byte) (n : Nat) : runOf .recessive (cellsUntil bytes n .dominant) = 0 ∧
    runOf .dominant (cellsUntil bytes n .dominant) = runOf .dominant ((frameCells bytes).take n) + 1 := by
  unfold cellsUntil
  rw [runOf_append, runOf_append]
  exact ⟨rfl, rfl⟩

/-- The statement's outlet clauses, from the outlets' own steps. -/
theorem clashed_outlets {v w : State} (hsp : (v.outlet x).sp = (s.outlet x).sp.orderedZero) (hmu : (v.outlet x).mu = (s.outlet x).mu)
    (hsc : (v.outlet x).sc = (s.outlet x).sc) (c : Clashed v w x) (out : t.outlet x = w.outlet x) (r : SessionRecord)
    (hr : (s.outlet x).sc.session = some r) (away : (s.outlet x).sc.state ≠ .outOfService) :
    if (s.outlet x).sp.feedbackClosed = true then
      (t.outlet x).sc.state = .closing ∧ (t.outlet x).sc.step = .openStep ∧ (t.outlet x).sp.contactor = .openWait ∧
      (t.outlet x).sc.session = some { r with endReason := some 139 } ∧ (t.outlet x).mu = { (s.outlet x).mu with silenceTimer := false }
    else
      (t.outlet x).sc = SessionOutlet.afterReset .vacant ∧ (t.outlet x).sp.contactor = .isOpen ∧
      (t.outlet x).mu = { (s.outlet x).mu with windowOpen := false, residue := 0, overdraw := 0, windowPulse := 0, windowSample := 0
                                               disagree := 0, silenceTimer := false } := by
  have feedback : (v.outlet x).sp.feedbackClosed = (s.outlet x).sp.feedbackClosed := by rw [hsp]; exact (orderedZero_lines _).2.1
  rw [out]
  split
  · next hf =>
    have := c.waits r (by rw [hsc]; exact hr) (by rw [hsc]; exact away) (feedback.trans hf)
    rwa [hmu] at this
  · next hf =>
    obtain ⟨contactor, sc, mu⟩ := c.settled r (by rw [hsc]; exact hr) (by rw [hsc]; exact away) (feedback.trans (Bool.eq_false_iff.2 hf))
    exact ⟨sc, contactor, by rw [mu, hmu]; rfl⟩

/-- The clash is the same work whatever the counts of the line. -/
theorem clashedBoth_ofLine {l : LineInterface} (h : ClashedBoth { s with li := l } t) :
    t = { s with
      li := { l.emptySlots with activity := .quiet }, se := { s.se with state := .barred, ceiling := 0, claim := 0, timer := 0, failed := 0 }
      outA := t.outA, outB := t.outB, stageTx := t.stageTx, ts := t.ts, sq := t.sq, pk := { s.pk with edge := t.pk.edge } } ∧
    t.isPending .clash = true ∧ t.isPending .share = true ∧
    (∀ x, ∃ v w, (v.outlet x).sp = (s.outlet x).sp.orderedZero ∧ (v.outlet x).mu = (s.outlet x).mu ∧
      (v.outlet x).sc = (s.outlet x).sc ∧ Clashed v w x ∧ t.outlet x = w.outlet x) ∧
    Settles s t ([Outlet.a, Outlet.b].filterMap fun x =>
      if (s.outlet x).sc.state ≠ .outOfService ∧ (s.outlet x).sp.feedbackClosed = false then
        (s.outlet x).sc.session.map fun r => { r with endReason := some 139 } else none) := by
  have same : ∀ x, ({ s with li := l } : State).outlet x = s.outlet x := fun x => outlet_congr rfl rfl x
  obtain ⟨shape, clash, share, outlets, settles⟩ := h
  simp only [same] at outlets settles
  exact ⟨shape, clash, share, outlets, settles.sq, settles.ts⟩

/-- The line interface that takes the clash: with the cells up to the one that shows it, or as it stands. -/
theorem exec_numberClash_found {cell : Option Nat} (h : s.se.state ≠ .barred) (hc : ∀ n, cell = some n → ∃ bytes, ClashCell s bytes n) :
    ∃ l : LineInterface, exec (.numberClash cell) s = .next { s with li := l }.clash ∧
      l = { s.li with recessive := l.recessive, dominant := l.dominant } ∧
      (∀ n bytes, cell = some n → ClashCell s bytes n →
        l.recessive = 0 ∧ l.dominant = runOf .dominant ((frameCells bytes).take n) + 1) := by
  cases cell with
  | none => exact ⟨s.li, exec_numberClash_heard h, rfl, fun _ _ hn => absurd hn (by simp)⟩
  | some n =>
    obtain ⟨bytes, found⟩ := hc n rfl
    refine ⟨_, exec_numberClash_cell h found, ?_, fun m bytes' hm found' => ?_⟩
    · rfl
    · obtain rfl : n = m := by simpa using hm
      obtain ⟨⟨k, r, hsend⟩, -⟩ := found
      obtain ⟨⟨k', r', hsend'⟩, -⟩ := found'
      obtain rfl : bytes = bytes' := by rw [hsend] at hsend'; simp at hsend'; exact hsend'.2.1
      obtain ⟨recessive, dominant⟩ := runOf_cellsUntil bytes n
      exact ⟨recessive, dominant⟩

/-- Settles O7: a number clash bars the station and ends its sessions. -/
theorem numberClash : Obligations.NumberClash := by
  intro s cell law
  have laws := (outletLaw_iff s).1 law
  refine ⟨fun h => exec_numberClash_barred h cell, fun n hn hc => ?_, fun h hc => ?_⟩
  · subst hn; exact exec_numberClash_elsewhere hc
  · obtain ⟨l, hexec, hl, counts⟩ := exec_numberClash_found h hc
    have heard : Law { s with li := l } := law_sameOutlets laws
    obtain ⟨shape, clash, share, outlets, settles⟩ := clashedBoth_ofLine (clash_clashedBoth heard)
    rw [hexec]
    generalize ({ s with li := l } : State).clash = t at *
    have line : t.li = { l.emptySlots with activity := .quiet } := by rw [shape]
    have engine : t.se = _ := congrArg State.se shape
    refine ⟨t, rfl, ?_, engine, ?_, fun n bytes hn found => ?_, clash, share, fun x => ?_, fun x hs => ?_, fun x hs => ?_,
      fun x r hr hs => ?_, fun settled hsettled => ?_⟩
    · rw [line, engine]; exact shape
    · rw [line, hl]; rfl
    · rw [line]; exact counts n bytes hn found
    · obtain ⟨v, w, -, -, -, clashed, out⟩ := outlets x
      rw [out]; exact clashed.port
    · obtain ⟨v, w, -, -, hsc, clashed, out⟩ := outlets x
      rw [out, clashed.outOfService (by rw [hsc]; exact hs), hsc]
    · obtain ⟨v, w, -, -, hsc, clashed, out⟩ := outlets x
      rw [out]; exact clashed.gone (by rw [hsc]; exact hs)
    · obtain ⟨v, w, hsp, hmu, hsc, clashed, out⟩ := outlets x
      exact clashed_outlets hsp hmu hsc clashed out r hr hs
    · rw [hsettled]; exact ⟨settles.sq, settles.ts⟩

end

end Sys2Proof.Proofs.StopAndClash
end

section
/-! A command row on a free link (R181, R182): its owner's reply, and how a reply and the bytes of a command's data read. -/

namespace Sys2Proof.Proofs.CommandRows

open Machine OutletOperations PedestalLink SettlementQueue

section
variable {s t : State} {x : Outlet}

/-- R182: on a free link a command row is answered with its owner's reply. -/
theorem exec_row {i : Instr} {c : LinkCommand} {data : List Byte} (hfree : s.linkFree) (hi : i.commandFrame = some (c.code, data)) :
    exec i s = .next (answeredBy c (c.run data s)) :=
  (exec_commandFrame hi s).trans (congrArg Host.Outcome.next (offerCommand_code_of_linkFree hfree c data))

theorem answeredBy_refuse (c : LinkCommand) (st : Status) : answeredBy c (s.refuse st) = s.answered c.code st.code [] := rfl

theorem answeredBy_accept (c : LinkCommand) : answeredBy c s.accept = s.answered c.code 0x00 [] := rfl

theorem field_byte (b : Byte) (rest : List Byte) : field (b :: rest) 0 1 = b.toNat := by
  simp [field, natOfBytes]

theorem headD_field (data : List Byte) : field data 0 1 = (data.headD 0).toNat := by
  cases data with
  | nil => rfl
  | cons b rest => exact field_byte b rest

theorem byte_ofNat_toNat (b : Byte) : BitVec.ofNat 8 b.toNat = b := by simp

theorem isConfigured_of_none (h : s.cf.config = none) : s.isConfigured = false := by simp [State.isConfigured, h]

theorem isConfigured_of_isSome (h : s.cf.config.isSome = true) : s.isConfigured = true := by simpa [State.isConfigured] using h

/-! ## Fields of data that is written byte by byte -/

/-- A number at the front of the data. -/
theorem field_front {n v : Nat} (h : v < 256 ^ n) (rest : List Byte) : field (bytesOf n v ++ rest) 0 n = v := by
  rw [field, List.drop_zero, List.take_left' (length_bytesOf n v), natOfBytes_bytesOf, Nat.mod_eq_of_lt h]

/-- A field behind other bytes. -/
theorem field_behind {front : List Byte} {m : Nat} (hlength : front.length = m) (rest : List Byte) (pos len : Nat) :
    field (front ++ rest) (m + pos) len = field rest pos len := by
  rw [field, field, ← hlength, List.drop_length_add_append]

end

end Sys2Proof.Proofs.CommandRows
end

section
/-! A halt begins and ends (R32 to R35, R78, R134, R135), whoever asks for it: the HALT frame, the site trip, SITE_HALT and the hold
timer. -/

namespace Sys2Proof.Proofs.Halts

open Machine OutletOperations OutletEvents StationWork StandingOrders RoundSteps ShareLaw ViewLaw Stopping OutletLaws OutletLawKept
open StopAndRestart StationWide StopAndClash CommandRows SettlementQueue

section
variable {s t : State} {x : Outlet}

/-! ## The beginning of a halt -/

/-- The share engine's part of a halt: HALT raised, C and K forced to 0, both orders 0. -/
def forced (s : State) : State := ((s.raise .halt).zeroCeiling).orderZeroBoth

theorem haltBegins_eq (s : State) : s.haltBegins = ((forced s).suspend .a).suspend .b := rfl

theorem forced_outlet (s : State) (x : Outlet) : ((forced s).outlet x).sp = (s.outlet x).sp.orderedZero ∧
    ((forced s).outlet x).mu = (s.outlet x).mu ∧ ((forced s).outlet x).sc = (s.outlet x).sc := by
  have same : (s.raise .halt).zeroCeiling.outlet x = s.outlet x := outlet_congr rfl rfl x
  have ordered := orderZeroBoth_outlet (s.raise .halt).zeroCeiling x
  rwa [same] at ordered

theorem forced_stageTx (s : State) : (forced s).stageTx = s.stageTx ++ (if s.outA.sp.ordered = 0 then [] else [{ outlet := .a, value := 0 }]) ++
    (if s.outB.sp.ordered = 0 then [] else [{ outlet := .b, value := 0 }]) := by
  have other : ((s.raise .halt).zeroCeiling.order .a 0).outlet .b = s.outlet .b := (order_work _ .a 0).other .b (by decide)
  unfold forced State.orderZeroBoth
  rw [order_zero_stageTx, setpointsAfterZero_eq, order_zero_stageTx, setpointsAfterZero_eq, other]
  rfl

theorem forced_pending (s : State) : (forced s).isPending .halt = true :=
  ((order_raises _ .a 0).trans (order_raises _ .b 0)) _ (raise_pending s .halt)

theorem contactorOpened_suspended (h : (s.outlet x).sc.state = .suspended) : s.contactorOpened x = s := by
  unfold State.contactorOpened
  rw [h]

/-- An open commanded in SUSPENDED sends what its order of 0 sends, settles nothing and raises no cause. -/
theorem commandOpen_suspended (h : (s.outlet x).sc.state = .suspended) :
    (s.commandOpen x).stageTx = s.setpointsAfterZero x ∧ (s.commandOpen x).sq = s.sq ∧ (s.commandOpen x).ts = s.ts ∧
    (s.commandOpen x).pk = s.pk := by
  have stays : ∀ f, ((s.order x 0).modSp x f).contactorOpened x = (s.order x 0).modSp x f := fun f =>
    contactorOpened_suspended (by rw [State.modSp_sc, State.order_sc]; exact h)
  unfold State.commandOpen
  dsimp only
  rw [← order_zero_stageTx]
  split
  case h_5 => simp
  case h_4 => rw [stays]; simp
  case h_3 => simp
  all_goals
    split
    · simp
    · rw [stays]; simp

/-- A suspension behind an order of 0 sends no SETPOINT message, and none settles a record. -/
theorem suspend_book (s : State) (x : Outlet) : ((s.outlet x).sp.ordered = 0 → (s.suspend x).stageTx = s.stageTx) ∧
    (s.suspend x).sq = s.sq ∧ (s.suspend x).ts = s.ts := by
  have opened : ∀ v : State, (v.outlet x).sc.state = .suspended → (v.outlet x).sp = (s.outlet x).sp → v.stageTx = s.stageTx →
      v.sq = s.sq → v.ts = s.ts → ((s.outlet x).sp.ordered = 0 → (v.commandOpen x).stageTx = s.stageTx) ∧
        (v.commandOpen x).sq = s.sq ∧ (v.commandOpen x).ts = s.ts := fun v hv hsp htx hsq hts => by
    obtain ⟨stageTx, sq, ts, -⟩ := commandOpen_suspended hv
    refine ⟨fun zero => ?_, sq.trans hsq, ts.trans hts⟩
    rw [stageTx, State.setpointsAfterZero, hsp, if_pos zero, htx]
  unfold State.suspend
  cases hs : (s.outlet x).sc.state with
  | connecting => exact opened _ (by simp [enter_sc]) (by simp) (by simp) (by simp) (by simp)
  | energising => exact opened _ (by simp [enter_sc]) (by simp) (by simp) (by simp) (by simp)
  | _ => exact ⟨fun _ => rfl, rfl, rfl⟩

theorem isPending_raise (s : State) (c d : Cause) : (s.raise c).isPending d = (s.isPending d || decide (c = d)) := by
  have inRange : ∀ e : Cause, e.index < 9 := fun e => by cases e <;> decide
  have same : (d.index = c.index) = (c = d) := by cases c <;> cases d <;> simp [Cause.index]
  simp [State.isPending, inRange, same]

theorem isPending_of_pk {c : Cause} (h : t.pk = s.pk) : t.isPending c = s.isPending c := by rw [State.isPending, h]; rfl

theorem isPending_enter {st : OutletState} {c : Cause} (h : c ≠ Cause.ofOutlet x) : (s.enter x st).isPending c = s.isPending c := by
  obtain ⟨-, change, stay⟩ := s.enter_spec x st
  by_cases hs : (s.outlet x).sc.state = st
  · rw [stay hs]
  · have raised := isPending_raise s (Cause.ofOutlet x) c
    rw [decide_eq_false (Ne.symm h), Bool.or_false] at raised
    rw [← raised]
    exact isPending_of_pk (change hs).2

/-- A suspension raises its outlet's cause alone. -/
theorem isPending_suspend {c : Cause} (h : c ≠ Cause.ofOutlet x) : (s.suspend x).isPending c = s.isPending c := by
  have opened : ∀ v : State, (v.outlet x).sc.state = .suspended → v.isPending c = s.isPending c → (v.commandOpen x).isPending c = s.isPending c :=
    fun v hv same => by
      obtain ⟨-, -, -, pk⟩ := commandOpen_suspended hv
      exact (isPending_of_pk pk).trans same
  have entered : ((s.enter x .suspended).modFlags x fun f => { f with halted := true }).isPending c = s.isPending c :=
    (isPending_of_pk (s := s.enter x .suspended) (by simp)).trans (isPending_enter h)
  unfold State.suspend
  cases hs : (s.outlet x).sc.state with
  | connecting => exact opened _ (by simp [enter_sc]) entered
  | energising => exact opened _ (by simp [enter_sc]) entered
  | _ => rfl

/-- A halt raises HALT and the outlets' causes alone. -/
theorem isPending_haltBegins {c : Cause} (h : ∀ x, c ≠ Cause.ofOutlet x) (hc : c ≠ .halt) : s.haltBegins.isPending c = s.isPending c := by
  rw [haltBegins_eq, isPending_suspend (h .b), isPending_suspend (h .a)]
  have raised := isPending_raise s .halt c
  rw [decide_eq_false (Ne.symm hc), Bool.or_false] at raised
  rw [← raised]
  exact isPending_of_pk (by simp [forced, State.orderZeroBoth, State.zeroCeiling])

theorem haltBegins_stageTx (s : State) : s.haltBegins.stageTx = (forced s).stageTx := by
  have zero : ∀ y, ((forced s).outlet y).sp.ordered = 0 := fun y => by rw [(forced_outlet s y).1]; exact orderedZero_ordered _
  have other : ((forced s).suspend .a).outlet .b = (forced s).outlet .b := (suspend_work _ .a).other .b (by decide)
  rw [haltBegins_eq, (suspend_book _ .b).1 (by rw [other]; exact zero .b), (suspend_book _ .a).1 (zero .a)]

theorem haltBegins_suspends (law : Law s) : HaltSuspends s s.haltBegins := by
  refine ⟨(haltBegins_stageTx s).trans (forced_stageTx s), fun x => ?_⟩
  obtain ⟨v, before, -, -, after, last⟩ := both_outlet (fun u y => u.suspend y) suspend_work (forced s) x
  have raises : Raises (v.suspend x) s.haltBegins := by
    rw [haltBegins_eq]
    obtain same | next := last
    · rw [same]; exact fun _ h => h
    · rw [next]; exact suspend_raises _ .b
  obtain ⟨sp, mu, sc⟩ := forced_outlet s x
  rw [← before] at sp mu sc
  rw [haltBegins_eq, after, ← haltBegins_eq]
  split
  · next hs =>
    have sound : (s.outlet x).sp.contactor ≠ .welded :=
      (law.fits x).notWelded (by obtain h | h := hs <;> rw [h] <;> decide)
    have suspended := suspend_spec (s := v) (x := x) (by rw [sp]; exact orderedZero_lawful (law.fits x).1)
      (by rw [sp, (orderedZero_lines _).1]; exact sound) (by rw [sc]; exact hs)
    refine ⟨?_, by rw [suspended.mu, mu], by rw [suspended.sc, sc], raises _ suspended.pending⟩
    rw [suspended.sp, sp, openCommanded_orderedZero]
    rfl
  · next hs =>
    obtain ⟨h, g⟩ := not_or.1 hs
    rw [suspend_elsewhere (by rw [sc]; exact h) (by rw [sc]; exact g)]
    exact ⟨sp, mu, sc⟩

/-! ## The halt taken by the peer view (R32, R34, R35) -/

/-- The peer view once it has taken a halt. -/
def heldView (v : PeerView) (source seconds reason : Nat) : PeerView :=
  { v with
    haltRecord := some { source := source, reason := reason }, hold := max v.hold seconds
    holdTimer := v.holdTimer || decide (v.hold ≤ seconds) }

/-- What a halt that is taken makes of the station. -/
structure HaltTaken (s t : State) (source seconds reason : Nat) : Prop where
  pv : t.pv = heldView s.pv source seconds reason
  goesOn : 0 < s.pv.hold → t = { s with pv := t.pv }
  begins : s.pv.hold = 0 →
    t = { s with pv := t.pv, se := { s.se with ceiling := 0, claim := 0 }, outA := t.outA, outB := t.outB, stageTx := t.stageTx
                 pk := { s.pk with edge := t.pk.edge } } ∧
    t.isPending .halt = true ∧ (∀ x, (t.outlet x).sp.ordered = 0) ∧ (s.OutletLaw → HaltSuspends s t)

theorem haltBegins_shape (s : State) : s.haltBegins = { s with
    se := { s.se with ceiling := 0, claim := 0 }, outA := s.haltBegins.outA, outB := s.haltBegins.outB
    stageTx := s.haltBegins.stageTx, pk := { s.pk with edge := s.haltBegins.pk.edge } } := by
  have work : OutletsWork (s.raise .halt).zeroCeiling s.haltBegins :=
    ((orderZeroBoth_work _).trans (suspend_work _ .a).toOutletsWork).trans (suspend_work _ .b).toOutletsWork
  have sq : s.haltBegins.sq = s.sq := by
    rw [haltBegins_eq, (suspend_book _ .b).2.1, (suspend_book _ .a).2.1]
    exact (orderZeroBoth_book (s.raise .halt).zeroCeiling).1
  have ts : s.haltBegins.ts = s.ts := by
    rw [haltBegins_eq, (suspend_book _ .b).2.2, (suspend_book _ .a).2.2]
    exact (orderZeroBoth_book (s.raise .halt).zeroCeiling).2
  have shape := work.eq
  rw [sq, ts] at shape
  exact shape

theorem takeHalt_taken (s : State) (source seconds reason : Nat) : HaltTaken s (s.takeHalt source seconds reason) source seconds reason := by
  unfold State.takeHalt
  dsimp only
  split
  · next h =>
    refine ⟨?_, fun _ => rfl, fun hold => by omega⟩
    have : ¬ s.pv.hold ≤ seconds := by omega
    simp [heldView, this, Nat.max_eq_left (Nat.le_of_lt h)]
  · next h =>
    have hold : max s.pv.hold seconds = seconds := by omega
    have le : s.pv.hold ≤ seconds := by omega
    split
    · next halted =>
      have view : ({ s.pv with haltRecord := some { source := source, reason := reason }, hold := seconds, holdTimer := true } : PeerView) =
          heldView s.pv source seconds reason := by simp [heldView, le]
      rw [view]
      generalize hv : ({ s with pv := heldView s.pv source seconds reason } : State) = v
      have pv : v.haltBegins.pv = heldView s.pv source seconds reason := by rw [haltBegins_pv, ← hv]
      refine ⟨pv, fun g => absurd halted (by omega), fun _ => ⟨?_, ?_, haltBegins_ordered v, fun law => ?_⟩⟩
      · rw [pv]; exact (haltBegins_shape v).trans (by rw [← hv])
      · exact (suspend_raises _ .b) _ ((suspend_raises _ .a) _ (forced_pending v))
      · have lawV : Law v := by rw [← hv]; exact law_sameOutlets ((outletLaw_iff s).1 law)
        have same : ∀ y, v.outlet y = s.outlet y := fun y => by rw [← hv]; exact outlet_congr rfl rfl y
        have suspends := haltBegins_suspends lawV
        simp only [HaltSuspends, same] at suspends ⊢
        rw [← hv] at suspends ⊢
        exact suspends
    · next halted =>
      exact ⟨by simp [heldView, le], fun _ => rfl, fun g => absurd g halted⟩

/-! ## The own halt (R82, R84, R85) -/

/-- What a halt that the station originates makes of it. -/
structure Originated (s t : State) (seconds reason : Nat) : Prop where
  pv : t.pv = heldView s.pv s.ownStation seconds reason
  li : if s.se.state = .barred then t.li = s.li
    else Placed s.li t.li .halt (parkFrame .halt s.ownStation [BitVec.ofNat 8 seconds, BitVec.ofNat 8 reason])
  se : t.se = { s.se with ceiling := if s.pv.hold = 0 then 0 else s.se.ceiling, claim := if s.pv.hold = 0 then 0 else s.se.claim }
  goesOn : 0 < s.pv.hold → t = { s with pv := t.pv, li := t.li }
  begins : s.pv.hold = 0 →
    t = { s with pv := t.pv, li := t.li, se := { s.se with ceiling := 0, claim := 0 }, outA := t.outA, outB := t.outB
                 stageTx := t.stageTx, pk := { s.pk with edge := t.pk.edge } } ∧
    t.isPending .halt = true ∧ (∀ x, (t.outlet x).sp.ordered = 0) ∧ (s.OutletLaw → HaltSuspends s t)

theorem originateHalt_originated (s : State) (seconds reason : Nat) : Originated s (s.originateHalt seconds reason) seconds reason := by
  generalize hp : s.placeHalt seconds reason = p
  have taken : HaltTaken p (s.originateHalt seconds reason) s.ownStation seconds reason := by
    unfold State.originateHalt
    rw [hp]
    exact takeHalt_taken p _ _ _
  generalize s.originateHalt seconds reason = t at *
  have shape : p = { s with li := p.li } := by
    obtain ⟨barred, free⟩ := s.placeFrame_spec .halt (parkFrame .halt s.ownStation [BitVec.ofNat 8 seconds, BitVec.ofNat 8 reason])
    rw [← hp]
    by_cases h : s.se.state = .barred
    · unfold State.placeHalt; rw [barred h]
    · exact (free h).2
  have line : if s.se.state = .barred then p.li = s.li
      else Placed s.li p.li .halt (parkFrame .halt s.ownStation [BitVec.ofNat 8 seconds, BitVec.ofNat 8 reason]) := by
    obtain ⟨barred, free⟩ := s.placeFrame_spec .halt (parkFrame .halt s.ownStation [BitVec.ofNat 8 seconds, BitVec.ofNat 8 reason])
    rw [← hp]
    split
    · next h => unfold State.placeHalt; rw [barred h]
    · next h => exact (free h).1
  generalize p.li = l at shape line
  subst shape
  obtain ⟨pv, goesOn, begins⟩ := taken
  have kept : t.li = l ∧ t.se = { s.se with
      ceiling := if s.pv.hold = 0 then 0 else s.se.ceiling, claim := if s.pv.hold = 0 then 0 else s.se.claim } := by
    by_cases hold : s.pv.hold = 0
    · rw [if_pos hold, if_pos hold, (begins hold).1]; exact ⟨rfl, rfl⟩
    · rw [if_neg hold, if_neg hold, goesOn (by dsimp only; omega)]; exact ⟨rfl, rfl⟩
  obtain ⟨rfl, engine⟩ := kept
  exact ⟨pv, line, engine, goesOn, begins⟩

theorem isPending_tripBegins {c : Cause} (h : ∀ x, c ≠ Cause.ofOutlet x) (hc : c ≠ .halt) (k : Configuration) :
    (s.tripBegins k).isPending c = s.isPending c := by
  have taken : ∀ (v : State) source seconds reason, (v.takeHalt source seconds reason).isPending c = v.isPending c :=
    fun v source seconds reason => by
      unfold State.takeHalt
      dsimp only
      split
      · rfl
      · split
        · exact isPending_haltBegins h hc
        · rfl
  exact (taken _ _ _ _).trans (isPending_of_pk (by simp [State.placeHalt]))

/-! ## The site trip (R82) -/

/-- Settles O12: a site trip halts the station and offers its HALT frame; a release clears the repeat count. -/
theorem siteTrip : Obligations.SiteTrip := by
  intro s
  refine ⟨fun h => if_pos h, fun h hk => ?_, fun h k hk _ => ?_, ?_⟩
  · show execSiteTripAsserted s = _
    unfold execSiteTripAsserted
    rw [if_neg (by rw [h]; decide), hk]
  · have exec_eq : exec .siteTripAsserted s = .next (({ s with se := { s.se with tripInput := true } } : State).tripBegins k) := by
      show execSiteTripAsserted s = _
      unfold execSiteTripAsserted
      rw [if_neg (by rw [h]; decide), hk]
    rw [exec_eq]
    unfold State.tripBegins
    obtain ⟨pv, li, se, goesOn, begins⟩ := originateHalt_originated { s with se := { s.se with tripInput := true } } k.tripSeconds 1
    generalize ({ s with se := { s.se with tripInput := true } } : State).originateHalt k.tripSeconds 1 = t at *
    refine ⟨_, rfl, pv, li, ?_, fun hold => ?_, fun hold => ?_⟩
    · dsimp only; rw [se]
    · exact congrArg (fun u : State => { u with se := { t.se with tripRepeat := 0 } }) (goesOn hold)
    · obtain ⟨shape, pending, ordered, suspends⟩ := begins hold
      exact ⟨congrArg (fun u : State => { u with se := { t.se with tripRepeat := 0 } }) shape, pending, ordered, suspends⟩
  · show execSiteTripReleased s = _
    unfold execSiteTripReleased
    split <;> rfl

/-! ## SITE_HALT (R84) -/

/-- Settles O42: SITE_HALT halts the station itself and offers its HALT frame. -/
theorem siteHalt : Obligations.SiteHalt := by
  intro s data hfree
  have row : exec (.siteHalt data) s = .next (answeredBy .siteHalt (siteHaltCommand data s)) := exec_row hfree rfl
  rw [row]
  unfold siteHaltCommand
  refine ⟨fun bad => ?_, fun seconds above hdata => ?_⟩
  · have refused : data.length ≠ 1 ∨ field data 0 1 = 0 := bad.imp_right fun h => by rw [headD_field, h]; rfl
    dsimp only
    rw [if_pos refused, answeredBy_refuse]
    rfl
  · subst hdata
    have given : field [seconds] 0 1 = seconds.toNat := field_byte seconds []
    dsimp only
    rw [given, if_neg (by simp; omega)]
    refine ⟨fun hk => ?_, fun hk => ?_⟩
    · rw [isConfigured_of_none hk, if_pos rfl, answeredBy_refuse]
      rfl
    · rw [isConfigured_of_isSome hk, if_neg (by decide)]
      obtain ⟨pv, li, -, goesOn, begins⟩ := originateHalt_originated s seconds.toNat 2
      rw [byte_ofNat_toNat] at li
      exact ⟨_, by rw [answeredBy_accept]; rfl, pv, li, goesOn, begins⟩

/-! ## The end of a halt (R33, R135) -/

theorem resume_haltEnded (law : Law s) : HaltEnded s (s.resume x) x := by
  refine ⟨(resume_work s x).onlyOutlet, fun h => ?_, fun hs hp r hr => ?_⟩
  · unfold State.resume
    rw [if_neg fun g => ?_]
    obtain ⟨g1, g2⟩ := g
    obtain h | h := h
    · exact h g1
    · rw [h] at g2; cases g2
  · have inside := law.inSession hr (.inl (by rw [hs]; rfl))
    have quiet := stopped_of (law.fits x).silenceTimer (by rw [hs]; decide)
    unfold State.resume
    rw [if_pos ⟨hs, hp⟩]
    refine ⟨fun hcap => ?_, fun reason hcap => ?_⟩
    · obtain ⟨stageTx, sp, mu, sc, ts, sq, pending⟩ := connect_spec hr hcap (by rw [hs]; decide) (suspended_contactor law hs)
      exact ⟨stageTx, ts, sq, by rw [mu, ← quiet], sc, sp, pending⟩
    · rw [connect_capped hr hcap]
      exact (ordinaryStop_spec reason inside (by rw [hs]; decide)).1

/-- Settles O11: the hold counts down, and the halt that ends takes SUSPENDED outlets to CONNECTING or CLOSING. -/
theorem holdTimerExpiry : Obligations.HoldTimerExpiry := by
  intro s
  refine ⟨fun h => if_neg (by rw [h]; decide), fun h hold => ?_, fun h hold law => ?_⟩
  · show execHoldTimerExpiry s = _
    unfold execHoldTimerExpiry
    rw [if_pos h, if_pos hold]
  · have ended : Law { s with pv := { s.pv with hold := 0, holdTimer := false } } := law_sameOutlets ((outletLaw_iff s).1 law)
    refine ⟨_, _, ?_, resume_haltEnded ended, resume_haltEnded (law_resume ended)⟩
    show execHoldTimerExpiry s = _
    unfold execHoldTimerExpiry
    rw [if_pos h, if_neg (by omega)]
    rfl

end

end Sys2Proof.Proofs.Halts
end

section
/-! Frames that the line interface evaluates (R6 to R8): which test a frame meets, and what the station makes of it. -/

namespace Sys2Proof.Proofs.ReceivedFrames

open Machine OutletOperations OutletEvents StationWork StandingOrders RoundSteps ShareLaw ViewLaw Stopping OutletLaws OutletLawKept
open StopAndClash CommandRows Halts PedestalLink SettlementQueue

section
variable {s t : State} {x : Outlet}

/-! ## The tests of R6 -/

section
variable {own : Nat} {population : Option Nat} {header : Byte} {payload : List Byte}

theorem lengthByte (h : payload.length ≤ 16) : (BitVec.ofNat 8 payload.length).toNat = payload.length := by
  rw [BitVec.toNat_ofNat]; omega

/-- A frame whose length byte counts its payload: only the check decides before the tests on the header. -/
theorem evaluateFrame_counted (h : payload.length ≤ 16) {check : List Byte} (hc : check.length = 2) :
    evaluateFrame own population (header :: BitVec.ofNat 8 payload.length :: payload ++ check) =
      if checkBytes (header :: BitVec.ofNat 8 payload.length :: payload) ≠ check then .damaged
      else evaluateChecked own population header payload := by
  have length := lengthByte h
  have body : (payload ++ check).take payload.length = payload := List.take_left' rfl
  have rest : (payload ++ check).drop payload.length = check := List.drop_left' rfl
  show evaluateFrame own population (header :: BitVec.ofNat 8 payload.length :: (payload ++ check)) = _
  unfold evaluateFrame
  dsimp only
  rw [length, body, rest, if_neg (by show ¬ 16 < _; omega), if_neg (by rw [List.length_append, hc]; simp)]

theorem evaluateFrame_good (h : payload.length ≤ 16) :
    evaluateFrame own population (goodFrame header payload) = evaluateChecked own population header payload := by
  unfold goodFrame
  rw [evaluateFrame_counted h (length_checkBytes _), if_neg (by simp)]

theorem evaluateFrame_long {length : Byte} (h : 16 < length.toNat) : evaluateFrame own population [header, length] = .damaged := if_pos h

theorem ofCode_code_kind (k : FrameKind) : FrameKind.ofCode k.code = some k := by cases k <;> rfl

theorem ofCode_undefined {n : Nat} (h : 3 ≤ n) : FrameKind.ofCode n = none := by
  obtain ⟨m, rfl⟩ := Nat.exists_eq_add_of_le' h
  rfl

theorem evaluateChecked_wrongLength {k : FrameKind} (hk : header.toNat / 32 = k.code) (hp : payload.length ≠ k.payloadLength) :
    evaluateChecked own population header payload = .damaged := by
  unfold evaluateChecked
  rw [hk, ofCode_code_kind]
  exact if_pos hp

section
variable {k : FrameKind} (hk : header.toNat / 32 = k.code) (hp : payload.length = k.payloadLength)
include hk hp

theorem evaluateChecked_own (hown : header.toNat % 32 = own) : evaluateChecked own population header payload = .ownNumber := by
  unfold evaluateChecked
  rw [hk, ofCode_code_kind]
  exact (if_neg (not_not_intro hp)).trans (if_pos hown)

theorem evaluateChecked_stray (hown : header.toNat % 32 ≠ own) {n : Nat} (hn : population = some n) (above : n ≤ header.toNat % 32) :
    evaluateChecked own population header payload = .strayStation := by
  subst hn
  unfold evaluateChecked
  rw [hk, ofCode_code_kind]
  exact (if_neg (not_not_intro hp)).trans ((if_neg hown).trans (if_pos above))

theorem evaluateChecked_accepted (hown : header.toNat % 32 ≠ own) (hN : ∀ n ∈ population, header.toNat % 32 < n) :
    evaluateChecked own population header payload = .accepted k (header.toNat % 32) payload := by
  unfold evaluateChecked
  rw [hk, ofCode_code_kind]
  refine (if_neg (not_not_intro hp)).trans ((if_neg hown).trans ?_)
  cases population with
  | none => rfl
  | some n => exact if_neg (Nat.not_le.2 (hN n rfl))

end

theorem evaluateChecked_undefined (h : 3 ≤ header.toNat / 32) : evaluateChecked own population header payload = .strayKind := by
  unfold evaluateChecked
  rw [ofCode_undefined h]

theorem parkFrame_header {k : FrameKind} {station : Nat} (h : station < 32) :
    (BitVec.ofNat 8 (k.code * 32 + station)).toNat / 32 = k.code ∧ (BitVec.ofNat 8 (k.code * 32 + station)).toNat % 32 = station := by
  have code : k.code ≤ 2 := by cases k <;> decide
  rw [BitVec.toNat_ofNat]
  omega

/-- R6: the frame of another station below N passes every test. -/
theorem evaluateFrame_parkFrame {k : FrameKind} {station : Nat} (h32 : station < 32) (hown : station ≠ own)
    (hN : ∀ n ∈ population, station < n) (hp : payload.length = k.payloadLength) :
    evaluateFrame own population (parkFrame k station payload) = .accepted k station payload := by
  obtain ⟨code, number⟩ := parkFrame_header (k := k) h32
  have short : k.payloadLength ≤ 16 := by cases k <;> decide
  have good : parkFrame k station payload = goodFrame (BitVec.ofNat 8 (k.code * 32 + station)) payload := rfl
  rw [good, evaluateFrame_good (by omega), evaluateChecked_accepted code hp (by rw [number]; exact hown) (by rw [number]; exact hN), number]

end

/-! ## What is made of a frame -/

theorem exec_frameEvaluation (h : s.evaluates) (bytes : List Byte) : exec (.frameEvaluation bytes) s = .next (s.takeFrame bytes) := if_pos h

/-- The line interface after a frame whose ack cell was left alone. -/
def rejectedState (s : State) (bytes : List Byte) : State := { s with li := s.li.frameEnds bytes false }

theorem rejected (bytes : List Byte) : Rejected s (rejectedState s bytes) bytes := by
  unfold rejectedState LineInterface.frameEnds LineInterface.afterCells
  rw [if_neg (by decide), List.append_nil, runOf_dominant_frameCells]

theorem acked_eq (s : State) (bytes : List Byte) : { s with li := s.li.frameEnds bytes true } = s.acked := by
  obtain ⟨dominant, recessive⟩ := runOf_acked bytes
  unfold LineInterface.frameEnds LineInterface.afterCells State.acked
  rw [if_pos rfl, dominant, recessive]

section
variable {bytes : List Byte}

theorem takeFrame_damaged (h : evaluateFrame s.ownStation (s.cf.config.map Configuration.population) bytes = .damaged) :
    s.takeFrame bytes = rejectedState s bytes := by
  unfold State.takeFrame; rw [h]; rfl

theorem takeFrame_strayKind (h : evaluateFrame s.ownStation (s.cf.config.map Configuration.population) bytes = .strayKind) :
    s.takeFrame bytes = rejectedState s bytes := by
  unfold State.takeFrame; rw [h]; rfl

theorem takeFrame_ownNumber (h : evaluateFrame s.ownStation (s.cf.config.map Configuration.population) bytes = .ownNumber) :
    s.takeFrame bytes = (rejectedState s bytes).clash := by
  unfold State.takeFrame; rw [h]; rfl

theorem takeFrame_strayStation (h : evaluateFrame s.ownStation (s.cf.config.map Configuration.population) bytes = .strayStation) :
    s.takeFrame bytes = (rejectedState s bytes).lineFault .strayStation := by
  unfold State.takeFrame; rw [h]; rfl

theorem takeFrame_parkFrame {k : FrameKind} {station : Nat} {payload : List Byte} (h32 : station < 32) (hown : station ≠ s.ownStation)
    (hN : ∀ c ∈ s.cf.config, station < c.population) (hp : payload.length = k.payloadLength) :
    s.takeFrame (parkFrame k station payload) = s.acked.handFrame k station payload := by
  have below : ∀ n ∈ s.cf.config.map Configuration.population, station < n := by simpa using hN
  unfold State.takeFrame
  rw [evaluateFrame_parkFrame h32 hown below hp]
  dsimp only
  rw [acked_eq]

end

/-! ## An accepted HALT (R32) -/

/-- Settles O9: an accepted HALT frame holds the station, and a halt that begins zeroes C, K and the orders and suspends. -/
theorem haltFrameAccepted : Obligations.HaltFrameAccepted := by
  intro s station duration reason ev h32 hown hN law
  rw [exec_frameEvaluation ev, takeFrame_parkFrame h32 hown hN rfl]
  obtain ⟨pv, goesOn, begins⟩ := takeHalt_taken s.acked station (max 1 duration.toNat) reason.toNat
  refine ⟨_, rfl, ?_⟩
  have handed : s.acked.handFrame .halt station [duration, reason] = s.acked.takeHalt station (max 1 duration.toNat) reason.toNat := by
    show s.acked.takeHalt station (max 1 (field [duration, reason] 0 1)) (field [reason] 0 1) = _
    rw [field_byte, field_byte]
  rw [handed]
  generalize s.acked.takeHalt station (max 1 duration.toNat) reason.toNat = t at *
  refine ⟨by rw [pv]; rfl, by rw [pv]; rfl, goesOn, fun hold => ?_⟩
  obtain ⟨shape, pending, -, suspends⟩ := begins hold
  have suspended : HaltSuspends s.acked t := suspends law
  exact ⟨shape, pending, suspended⟩

/-! ## Accepted ANNOUNCE and CURTAIL frames (R8, R25, R29) -/

theorem setView_eq (s : State) (v : PeerView) : s.setView v =
    { s with pv := v, pk := { s.pk with edge := if v.level = s.pv.level then s.pk.edge else s.pk.edge ||| 0x10 } } := by
  unfold State.setView
  dsimp only
  split
  · rfl
  · simp [State.raise, Cause.index, BitVec.twoPow]

theorem ofPayload_announce {station q c k d : Nat} (flags weight parity : Byte) (hq : q < 65536) (hc : c < 65536) (hk : k < 65536)
    (hd : d < 65536) :
    PeerEntry.ofPayload station (flags :: weight :: bytesOf 2 q ++ bytesOf 2 c ++ bytesOf 2 k ++ bytesOf 2 d ++ [parity]) =
      { station := station, joining := flags.getLsbD 0, halted := flags.getLsbD 1, weight := min weight.toNat 2, demand := q
        ceiling := c, claim := k, draw := d, parity := parity.getLsbD 0, age := 0 } := by
  have nested : flags :: weight :: bytesOf 2 q ++ bytesOf 2 c ++ bytesOf 2 k ++ bytesOf 2 d ++ [parity] =
      flags :: weight :: (bytesOf 2 q ++ (bytesOf 2 c ++ (bytesOf 2 k ++ (bytesOf 2 d ++ [parity])))) := by simp
  have two := length_bytesOf 2
  have demand := field_front (n := 2) hq (bytesOf 2 c ++ (bytesOf 2 k ++ (bytesOf 2 d ++ [parity])))
  have ceiling := field_front (n := 2) hc (bytesOf 2 k ++ (bytesOf 2 d ++ [parity]))
  have claim := field_front (n := 2) hk (bytesOf 2 d ++ [parity])
  have draw := field_front (n := 2) hd [parity]
  have last := field_byte parity []
  rw [← field_behind (two d)] at last
  rw [← field_behind (two k)] at last draw
  rw [← field_behind (two c)] at last draw claim
  rw [← field_behind (two q)] at last draw claim ceiling
  rw [nested]
  generalize bytesOf 2 q ++ (bytesOf 2 c ++ (bytesOf 2 k ++ (bytesOf 2 d ++ [parity]))) = rest at *
  have behind : ∀ pos len, field (flags :: weight :: rest) (pos + 2) len = field rest pos len := fun _ _ => rfl
  have second : field (flags :: weight :: rest) 1 1 = weight.toNat := field_byte weight rest
  unfold PeerEntry.ofPayload
  rw [field_byte, second, behind 0, behind 2, behind 4, behind 6, behind 8, demand, ceiling, claim, draw, last]
  rfl

/-- A change of the peer table moves no curtail level. -/
theorem setView_peers (s : State) (ps : List PeerEntry) : s.setView { s.pv with peers := ps } = { s with pv := { s.pv with peers := ps } } :=
  if_pos rfl

/-- Settles O8: the ANNOUNCE and CURTAIL bytes that a station builds are accepted by every other and read back field by field. -/
theorem sentFramesAreAccepted : Obligations.SentFramesAreAccepted := by
  intro s station ev h32 hown hN
  refine ⟨fun flags weight parity q c k d hq hc hk hd ascending => ?_, fun level ascending => ?_⟩
  · rw [exec_frameEvaluation ev, takeFrame_parkFrame h32 hown hN (by simp; rfl)]
    refine ⟨_, rfl, ?_⟩
    unfold State.handFrame
    dsimp only
    rw [setView_peers, ofPayload_announce flags weight parity hq hc hk hd, insertPeer_eq]
    exact ⟨rfl, ascending_placeByKey ascending, mem_placeByKey ascending⟩
  · rw [exec_frameEvaluation ev, takeFrame_parkFrame h32 hown hN rfl]
    refine ⟨_, rfl, ?_⟩
    unfold State.handFrame
    dsimp only
    rw [setView_eq, field_byte, readLevel, insertCurtail_eq]
    exact ⟨rfl, ascending_placeByKey ascending, mem_placeByKey ascending⟩

/-! ## Frames that are not accepted (R6, R18, R19) -/

/-- Whatever finds it, a clash bars the station and leaves the ack cell and the peer view alone. -/
theorem clash_marks (s : State) : s.clash.se.state = .barred ∧ s.clash.isPending .clash = true ∧ s.clash.li.ackDriven = s.li.ackDriven := by
  have work : OutletsWork (barredState s) s.clash :=
    (((orderZeroBoth_work (barredState s)).trans (raise_work _ .a _).toOutletsWork).trans (clashOutlet_work _ .a).toOutletsWork).trans
      (clashOutlet_work _ .b).toOutletsWork
  have raises : Raises (barredState s) s.clash :=
    ((((order_raises _ .a 0).trans (order_raises _ .b 0)).trans (raise_raises _ _)).trans (clashOutlet_raises _ .a)).trans
      (clashOutlet_raises _ .b)
  refine ⟨by rw [work.se]; rfl, raises _ ?_, by rw [work.li]; rfl⟩
  exact raise_pending { s with li := { s.li.emptySlots with activity := .quiet } } .clash

theorem lineFault_stray (s : State) : s.lineFault .strayStation =
    { s with li := { s.li with lastFault := .strayStation }, pk := { s.pk with edge := s.pk.edge ||| 0x20 } } := by
  simp [State.lineFault, State.raise, Cause.index, BitVec.twoPow]

/-- Settles O10: damaged and stray frames are rejected without ack, and a frame of the own number is a whole clash. -/
theorem framesRejected : Obligations.FramesRejected := by
  intro s header ev
  have exec_eq := fun bytes => exec_frameEvaluation ev bytes
  have good : ∀ {payload : List Byte}, payload.length ≤ 16 → evaluateFrame s.ownStation (s.cf.config.map Configuration.population)
      (goodFrame header payload) = evaluateChecked s.ownStation (s.cf.config.map Configuration.population) header payload :=
    fun h => evaluateFrame_good h
  refine ⟨fun length long => ?_, fun payload check short hc bad => ?_, fun payload short undefined => ?_,
    fun k payload short code => ⟨fun wrong => ?_, fun right own => ?_, fun right other stray => ?_⟩⟩
  · exact ⟨_, (exec_eq _).trans (by rw [takeFrame_damaged (evaluateFrame_long long)]), rejected _⟩
  · exact ⟨_, (exec_eq _).trans (by rw [takeFrame_damaged ((evaluateFrame_counted short hc).trans (if_pos bad.symm))]), rejected _⟩
  · exact ⟨_, (exec_eq _).trans (by rw [takeFrame_strayKind ((good short).trans (evaluateChecked_undefined undefined))]), rejected _⟩
  · exact ⟨_, (exec_eq _).trans (by
      rw [takeFrame_damaged ((good short).trans (evaluateChecked_wrongLength code wrong))]), rejected _⟩
  · have outcome := takeFrame_ownNumber ((good short).trans (evaluateChecked_own code right own))
    have clashes := exec_eq (goodFrame header payload)
    rw [outcome] at clashes
    obtain ⟨barred, pending, ack⟩ := clash_marks (rejectedState s (goodFrame header payload))
    refine ⟨fun r hr => ?_, _, clashes, barred, pending, ack, (clash_view _).1⟩
    have same : r = rejectedState s (goodFrame header payload) := hr.trans (rejected _).symm
    rw [clashes, same, exec_numberClash_heard]
    exact ev.2
  · obtain ⟨c, hc, above⟩ := stray
    have config : s.cf.config = some c := hc
    have outcome : evaluateFrame s.ownStation (s.cf.config.map Configuration.population) (goodFrame header payload) = .strayStation :=
      (good short).trans (evaluateChecked_stray code right other (by rw [config]; rfl) above)
    refine ⟨_, (exec_eq _).trans (by rw [takeFrame_strayStation outcome]), ?_⟩
    have ends : rejectedState s (goodFrame header payload) = _ := rejected _
    rw [lineFault_stray, ends]

end

end Sys2Proof.Proofs.ReceivedFrames
end

section
/-! The transition of a round (R63, R68, R69, R71 to R73, R77): the outcome of the last ANNOUNCE, the counters and the share state. -/

namespace Sys2Proof.Proofs.RoundMoves

open Machine OutletOperations StationWork RoundSteps ShareLaw RoundLaw Stopping Halts

section
variable {s t : State} {x : Outlet}

/-! ## What the last step of a round reaches -/

/-- The round with its CURTAIL frame, before the repeat of a site trip. -/
def originated (s : State) : State := if s.se.origin < 100 then s.placeCurtail s.se.origin else s

theorem originated_frame (s : State) :
    (originated s).cf = s.cf ∧ (originated s).pv = s.pv ∧ (originated s).se = s.se ∧ (originated s).outA = s.outA ∧
    (originated s).outB = s.outB ∧ (originated s).estop = s.estop ∧ (originated s).stageTx = s.stageTx ∧
    (originated s).nextId = s.nextId ∧ (originated s).ts = s.ts ∧ (originated s).sq = s.sq ∧ (originated s).pk = s.pk ∧
    (originated s).pending = s.pending := by
  unfold originated State.placeCurtail
  split <;> simp

theorem originated_eq (s : State) : originated s = { s with li := (originated s).li } := by
  obtain ⟨cf, pv, se, outA, outB, estop, stageTx, nextId, ts, sq, pk, pending⟩ := originated_frame s
  generalize originated s = t at *
  cases t
  subst cf pv se outA outB estop stageTx nextId ts sq pk pending
  rfl

/-- No trip is asserted, or none is watched before CONFIGURE. -/
theorem roundOriginate_quiet (h : s.cf.config = none ∨ s.se.tripInput = false) : s.roundOriginate = originated s := by
  obtain ⟨cf, -, se, -⟩ := originated_frame s
  obtain h | h := h
  · have config : (originated s).cf.config = none := by rw [cf]; exact h
    unfold State.roundOriginate
    rw [← originated]
    dsimp only
    rw [config]
  · have trip : (originated s).se.tripInput = false := by rw [se]; exact h
    unfold State.roundOriginate
    rw [← originated]
    dsimp only
    split
    · rfl
    · exact if_pos trip

theorem roundOriginate_counts {k : Configuration} (hk : s.cf.config = some k) (trip : s.se.tripInput = true) (h : s.se.tripRepeat < 3) :
    s.roundOriginate = { originated s with se := { s.se with tripRepeat := s.se.tripRepeat + 1 } } := by
  obtain ⟨cf, -, se, -⟩ := originated_frame s
  have config : (originated s).cf.config = some k := by rw [cf]; exact hk
  unfold State.roundOriginate
  rw [← originated]
  dsimp only
  rw [config, se]
  dsimp only
  rw [if_neg (by rw [trip]; decide), if_pos (by show _ < 4; omega)]

theorem roundOriginate_repeats {k : Configuration} (hk : s.cf.config = some k) (trip : s.se.tripInput = true) (h : 3 ≤ s.se.tripRepeat) :
    s.roundOriginate = (originated s).tripBegins k := by
  obtain ⟨cf, -, se, -⟩ := originated_frame s
  have config : (originated s).cf.config = some k := by rw [cf]; exact hk
  unfold State.roundOriginate
  rw [← originated]
  dsimp only
  rw [config, se]
  dsimp only
  rw [if_neg (by rw [trip]; decide), if_neg (by show ¬ _ < 4; omega)]

/-- The last step at a round that does not repeat a site trip. -/
theorem roundOriginate_steady (h : s.cf.config = none ∨ s.se.tripInput = false ∨ s.se.tripRepeat < 3) : s.roundOriginate = { s with
    li := (originated s).li
    se := { s.se with tripRepeat := s.se.tripRepeat + if s.cf.config.isSome = true ∧ s.se.tripInput = true then 1 else 0 } } := by
  by_cases quiet : s.cf.config = none ∨ s.se.tripInput = false
  · have uncounted : ¬ (s.cf.config.isSome = true ∧ s.se.tripInput = true) := by
      rintro ⟨configured, trip⟩
      obtain none | off := quiet
      · rw [none] at configured; cases configured
      · rw [off] at trip; cases trip
    rw [roundOriginate_quiet quiet, if_neg uncounted]
    exact originated_eq s
  · obtain ⟨configured, trip⟩ := not_or.1 quiet
    obtain ⟨k, hk⟩ := Option.ne_none_iff_exists'.1 configured
    have trip : s.se.tripInput = true := Bool.eq_true_of_not_eq_false trip
    have count : s.se.tripRepeat < 3 := by
      obtain h | h | h := h
      · exact absurd h configured
      · rw [trip] at h; cases h
      · exact h
    rw [roundOriginate_counts hk trip count, if_pos ⟨by rw [hk]; rfl, trip⟩, originated_eq s]

/-- Whatever it does, the last step leaves the share engine's state and its counters alone, and raises no SHARE. -/
theorem roundOriginate_engine (s : State) : (∃ c k r, s.roundOriginate.se = { s.se with ceiling := c, claim := k, tripRepeat := r }) ∧
    s.roundOriginate.isPending .share = s.isPending .share := by
  obtain ⟨cf, pv, se, -, -, -, -, -, -, -, pk, -⟩ := originated_frame s
  by_cases quiet : s.cf.config = none ∨ s.se.tripInput = false
  · rw [roundOriginate_quiet quiet]
    exact ⟨⟨_, _, _, se⟩, isPending_of_pk pk⟩
  · obtain ⟨configured, trip⟩ := not_or.1 quiet
    obtain ⟨k, hk⟩ := Option.ne_none_iff_exists'.1 configured
    have trip : s.se.tripInput = true := Bool.eq_true_of_not_eq_false trip
    by_cases h : s.se.tripRepeat < 3
    · rw [roundOriginate_counts hk trip h]
      exact ⟨⟨_, _, _, rfl⟩, isPending_of_pk pk⟩
    · rw [roundOriginate_repeats hk trip (by omega)]
      have halt := originateHalt_originated (originated s) k.tripSeconds 1
      refine ⟨⟨((originated s).originateHalt k.tripSeconds 1).se.ceiling, ((originated s).originateHalt k.tripSeconds 1).se.claim, 0, ?_⟩,
        (isPending_tripBegins (fun y => by cases y <;> decide) (by decide) k).trans (isPending_of_pk pk)⟩
      show { ((originated s).originateHalt k.tripSeconds 1).se with tripRepeat := 0 } = _
      rw [halt.se]
      dsimp only
      rw [se]

/-! ## The transition -/

/-- Steps 2 and 3 before the transition: the outcome and the failed-round count of R68, and the raised timer of R69. -/
theorem fixOutcome_tick (e : ShareEngine) : e.fixOutcome.tick = { e with
    prevClaim := if e.frameBuilt = true then e.frameClaim else 0, prevAcked := e.frameBuilt && e.ackReported, ackReported := false
    failed := if e.frameBuilt = true then
        if e.ackReported = true then 0 else if e.state = .joining ∨ e.state = .sharing then e.failed + 1 else e.failed
      else e.failed
    timer := min (e.timer + 1) 255 } := by
  unfold ShareEngine.tick ShareEngine.fixOutcome
  cases hb : e.frameBuilt with
  | false => rfl
  | true =>
    cases ha : e.ackReported with
    | true => rfl
    | false => simp [Config.timerMax]

theorem transition_kept (e : ShareEngine) (f : Nat) : (e.transition f).parity = e.parity ∧ (e.transition f).ackReported = e.ackReported ∧
    (e.transition f).origin = e.origin ∧ (e.transition f).tripInput = e.tripInput ∧ (e.transition f).tripRepeat = e.tripRepeat := by
  unfold ShareEngine.transition ShareEngine.enterAtRound
  cases e.state with
  | unconfigured => simp
  | barred => simp
  | joining =>
    dsimp only
    split
    · simp
    · split <;> simp
  | sharing => dsimp only; split <;> simp
  | isolated => dsimp only; split <;> simp

theorem movedEngine_kept (s : State) : (movedEngine s).origin = s.se.origin ∧ (movedEngine s).tripInput = s.se.tripInput ∧
    (movedEngine s).tripRepeat = s.se.tripRepeat ∧ (movedEngine s).parity = s.se.parity := by
  obtain ⟨parity, -, origin, input, count⟩ := transition_kept s.se.fixOutcome.tick ((s.cf.config.map Configuration.fallback).getD 0)
  have outcome := fixOutcome_tick s.se
  unfold movedEngine
  rw [parity, origin, input, count, outcome]
  exact ⟨rfl, rfl, rfl, rfl⟩

/-- The round before its last step leaves the own origin and the site-trip input with its count alone. -/
theorem announced_trip (s : State) : (announced s).se.origin = s.se.origin ∧ (announced s).se.tripInput = s.se.tripInput ∧
    (announced s).se.tripRepeat = s.se.tripRepeat := by
  obtain ⟨origin, input, count, -⟩ := movedEngine_kept s
  rw [announced_se, computed_se]
  exact ⟨origin, input, count⟩

/-- R77: SHARE follows a change of share state. -/
theorem computed_share (s : State) : (computed s).isPending .share =
    (s.isPending .share || decide ((movedEngine s).state ≠ s.se.state)) := by
  have moved : movedEngine s.roundAgeing = movedEngine s := by simp [movedEngine]
  have aged : s.roundAgeing.isPending .share = s.isPending .share := by
    unfold State.roundAgeing State.setView
    dsimp only
    split
    · rfl
    · exact (isPending_raise _ _ _).trans (Bool.or_false _)
  have step : (computed s).isPending .share = s.roundAgeing.roundState.isPending .share :=
    isPending_of_pk (roundArithmetic_frame _).2.2.2.2.2.2.2.2.2.2.1
  rw [step, ← aged, ← moved]
  have same : s.roundAgeing.se.state = s.se.state := by simp
  rw [← same]
  unfold State.roundState
  rw [← movedEngine]
  dsimp only
  split
  · next h => rw [decide_eq_false (not_not_intro h), Bool.or_false]; rfl
  · next h =>
    rw [decide_eq_true h]
    exact (isPending_raise _ _ _).trans (by simp)

/-- Settles O46: a round fixes the outcome of the last ANNOUNCE and moves the share state and its counters. -/
theorem roundTransitions : Obligations.RoundTransitions := by
  intro s acked failed timer hacked hfailed htimer
  refine ⟨_, exec_round s, ?_⟩
  obtain ⟨⟨c, k, r, se⟩, share⟩ := roundOriginate_engine (announced s)
  have pending : (announced s).isPending .share = (computed s).isPending .share := isPending_of_pk (announced_pk s)
  rw [share, pending, computed_share, se, announced_se, computed_se]
  generalize hf : (s.cf.config.map Configuration.fallback).getD 0 = f
  have moved : movedEngine s = s.se.fixOutcome.tick.transition f := by unfold movedEngine; rw [hf]
  obtain ⟨-, -, prevAcked, prevClaim⟩ := transition_fixed s.se.fixOutcome.tick f
  obtain ⟨parity, ackReported, -⟩ := transition_kept s.se.fixOutcome.tick f
  have outcome := fixOutcome_tick s.se
  rw [← hacked, ← hfailed, ← htimer] at outcome
  dsimp only
  rw [moved, parity, prevAcked, prevClaim, ackReported]
  refine ⟨by rw [outcome], by rw [outcome], by rw [outcome], by rw [outcome], rfl, ?_⟩
  unfold ShareEngine.transition ShareEngine.enterAtRound
  rw [outcome]
  cases hs : s.se.state with
  | unconfigured => exact ⟨rfl, rfl, rfl⟩
  | barred => exact ⟨rfl, rfl, rfl⟩
  | joining =>
    dsimp only
    split
    · exact ⟨rfl, rfl, rfl⟩
    · split
      · exact ⟨rfl, rfl, rfl⟩
      · exact ⟨rfl, rfl, rfl, rfl⟩
  | sharing =>
    dsimp only
    split
    · exact ⟨rfl, rfl, rfl⟩
    · exact ⟨rfl, rfl, rfl⟩
  | isolated =>
    dsimp only
    split
    · exact ⟨rfl, rfl, rfl, rfl⟩
    · exact ⟨rfl, rfl, rfl⟩

end

end Sys2Proof.Proofs.RoundMoves
end

section
/-! The water-fill (R45 to R50): the order of the flexible set, the walk and where it stops, what each member is given, the own share. -/

namespace Sys2Proof.Proofs.WaterFill

open Machine

/-! ## The order of the flexible set (R48) -/

/-- The member takes part: it has a weight and a demand. -/
abbrev Takes (m : Member) : Prop := 1 ≤ m.w ∧ 1 ≤ m.q

/-- The ratios q / w ascend. -/
abbrev NotAbove (a b : Member) : Prop := a.q * b.w ≤ b.q * a.w

/-- R48's order: by the ratio, and at one ratio by station number. -/
abbrev Ahead (a b : Member) : Prop := a.q * b.w < b.q * a.w ∨ (a.q * b.w = b.q * a.w ∧ a.station < b.station)

theorem insertMember_perm (m : Member) (l : List Member) : (insertMember m l).Perm (m :: l) := by
  induction l with
  | nil => exact .refl _
  | cons n rest ih =>
    unfold insertMember
    split
    · exact .refl _
    · exact (ih.cons n).trans (List.Perm.swap m n rest)

theorem sortMembers_perm (ms : List Member) : (sortMembers ms).Perm ms := by
  induction ms with
  | nil => exact .refl _
  | cons m rest ih => exact (insertMember_perm m _).trans (ih.cons m)

/-- A member put into its place keeps an order that agrees with R48's. -/
theorem insertMember_pairwise {r : Member → Member → Prop} {m : Member} {l : List Member}
    (before : ∀ n ∈ l, m.before n = true → r m n) (behind : ∀ n ∈ l, m.before n = false → r n m)
    (trans : ∀ n ∈ l, ∀ o ∈ l, r m n → r n o → r m o) (h : l.Pairwise r) : (insertMember m l).Pairwise r := by
  induction l with
  | nil => exact List.pairwise_singleton _ _
  | cons n rest ih =>
    obtain ⟨first, later⟩ := List.pairwise_cons.1 h
    unfold insertMember
    split
    · next hb =>
      have mn : r m n := before n (by simp) hb
      refine List.pairwise_cons.2 ⟨fun o ho => ?_, h⟩
      obtain rfl | ho := List.mem_cons.1 ho
      · exact mn
      · exact trans n (by simp) o (by simp [ho]) mn (first o ho)
    · next hb =>
      refine List.pairwise_cons.2 ⟨fun o ho => ?_, ih (fun o ho => before o (by simp [ho])) (fun o ho => behind o (by simp [ho]))
        (fun o ho p hp => trans o (by simp [ho]) p (by simp [hp])) later⟩
      obtain rfl | ho := List.mem_cons.1 ((insertMember_perm m rest).subset ho)
      · exact behind n (by simp) (Bool.eq_false_iff.2 hb)
      · exact first o ho

theorem notAbove_trans {a b c : Member} (hb : 1 ≤ b.w) (h : NotAbove a b) (g : NotAbove b c) : NotAbove a c := by
  refine Nat.le_of_mul_le_mul_right ?_ hb
  calc a.q * c.w * b.w = a.q * b.w * c.w := by ring
    _ ≤ b.q * a.w * c.w := Nat.mul_le_mul_right _ h
    _ = b.q * c.w * a.w := by ring
    _ ≤ c.q * b.w * a.w := Nat.mul_le_mul_right _ g
    _ = c.q * a.w * b.w := by ring

theorem ahead_trans {a b c : Member} (ha : 1 ≤ a.w) (hb : 1 ≤ b.w) (hc : 1 ≤ c.w) (h : Ahead a b) (g : Ahead b c) : Ahead a c := by
  have ab : NotAbove a b := h.elim Nat.le_of_lt fun h => h.1.le
  have bc : NotAbove b c := g.elim Nat.le_of_lt fun g => g.1.le
  have le := notAbove_trans hb ab bc
  by_cases eq : a.q * c.w = c.q * a.w
  · have ba : NotAbove b a := notAbove_trans hc bc eq.ge
    have cb : NotAbove c b := notAbove_trans ha eq.ge ab
    have h2 : a.station < b.station := by obtain h | ⟨-, h⟩ := h <;> omega
    have g2 : b.station < c.station := by obtain g | ⟨-, g⟩ := g <;> omega
    exact .inr ⟨eq, h2.trans g2⟩
  · exact .inl (Nat.lt_of_le_of_ne le eq)

/-- R48: the sorted set is the set, in ascending ratio. -/
theorem sortMembers_ratios {ms : List Member} (h : ∀ m ∈ ms, Takes m) : (sortMembers ms).Pairwise NotAbove := by
  induction ms with
  | nil => exact .nil
  | cons m rest ih =>
    have inside : ∀ n ∈ sortMembers rest, Takes n := fun n hn => h n (by simp [(sortMembers_perm rest).subset hn])
    refine insertMember_pairwise (fun n _ hb => ?_) (fun n _ hb => ?_) (fun n hn o _ => notAbove_trans (inside n hn).1)
      (ih fun n hn => h n (by simp [hn]))
    · obtain lt | ⟨eq, -⟩ : Ahead m n := of_decide_eq_true hb
      · exact lt.le
      · exact eq.le
    · have hb : ¬ Ahead m n := of_decide_eq_false hb
      exact Nat.not_lt.1 fun lt => hb (.inl lt)

/-- R48: with distinct station numbers the order is total. -/
theorem sortMembers_ahead {ms : List Member} (h : ∀ m ∈ ms, Takes m) (distinct : (ms.map Member.station).Nodup) :
    (sortMembers ms).Pairwise Ahead := by
  induction ms with
  | nil => exact .nil
  | cons m rest ih =>
    obtain ⟨fresh, restDistinct⟩ := List.nodup_cons.1 distinct
    have member : ∀ n ∈ sortMembers rest, n ∈ rest := fun n hn => (sortMembers_perm rest).subset hn
    have inside : ∀ n ∈ sortMembers rest, 1 ≤ n.w := fun n hn => (h n (by simp [member n hn])).1
    have own : 1 ≤ m.w := (h m (by simp)).1
    refine insertMember_pairwise (fun n _ hb => of_decide_eq_true hb) (fun n hn hb => ?_)
      (fun n hn o ho => ahead_trans own (inside n hn) (inside o ho)) (ih (fun n hn => h n (by simp [hn])) restDistinct)
    have hb : ¬ Ahead m n := of_decide_eq_false hb
    have other : m.station ≠ n.station := fun eq => fresh (eq ▸ List.mem_map_of_mem (member n hn))
    obtain ⟨notLess, notFirst⟩ := not_or.1 hb
    by_cases eq : n.q * m.w = m.q * n.w
    · exact .inr ⟨eq, Nat.lt_of_le_of_ne (Nat.not_lt.1 fun lt => notFirst ⟨eq.symm, lt⟩) other.symm⟩
    · exact .inl (Nat.lt_of_le_of_ne (Nat.not_lt.1 notLess) eq)

/-! ## The walk (R49) -/

theorem totalWeight_cons (m : Member) (rest : List Member) : totalWeight (m :: rest) = m.w + totalWeight rest := by
  simp [totalWeight]

theorem waterFill_fits {r : Nat} {m : Member} {rest : List Member} (h : m.q ≤ r * m.w / totalWeight (m :: rest)) :
    waterFill r (totalWeight (m :: rest)) (m :: rest) = (m.station, m.q) :: waterFill (r - m.q) (totalWeight rest) rest := by
  have weight : totalWeight (m :: rest) - m.w = totalWeight rest := by rw [totalWeight_cons, Nat.add_sub_cancel_left]
  rw [waterFill, if_pos h, weight]

theorem waterFill_stops {r : Nat} {m : Member} {rest : List Member} (h : r * m.w / totalWeight (m :: rest) < m.q) :
    waterFill r (totalWeight (m :: rest)) (m :: rest) = (m :: rest).map fun n => (n.station, r * n.w / totalWeight (m :: rest)) := by
  rw [waterFill, if_neg (Nat.not_le.2 h)]

theorem waterFill_stations (r : Nat) (ms : List Member) : (waterFill r (totalWeight ms) ms).map Prod.fst = ms.map Member.station := by
  induction ms generalizing r with
  | nil => rfl
  | cons m rest ih =>
    by_cases h : m.q ≤ r * m.w / totalWeight (m :: rest)
    · rw [waterFill_fits h, List.map_cons, List.map_cons, ih]
    · rw [waterFill_stops (Nat.not_le.1 h), List.map_map]; rfl

theorem waterFill_length (r : Nat) (ms : List Member) : (waterFill r (totalWeight ms) ms).length = ms.length := by
  simpa using congrArg List.length (waterFill_stations r ms)

/-- What each member is given once the walk has stopped at the place j. -/
def partGiven (R : Nat) (ms : List Member) (j i : Nat) (m : Member) : Nat :=
  if i < j then m.q else (R - ((ms.take j).map Member.q).sum) * m.w / ((ms.drop j).map Member.w).sum

/-- R49: the walk stops at a place j, and the members before and from it are given their parts. -/
structure StopsAt (R : Nat) (ms : List Member) (j : Nat) : Prop where
  place : j ≤ ms.length
  fits : ∀ n, n < j → ∀ a, ms[n]? = some a → a.q ≤ (R - ((ms.take n).map Member.q).sum) * a.w / ((ms.drop n).map Member.w).sum
  short : ∀ a, ms[j]? = some a → (R - ((ms.take j).map Member.q).sum) * a.w / ((ms.drop j).map Member.w).sum < a.q
  given : ∀ i m, ms[i]? = some m → (waterFill R (totalWeight ms) ms)[i]? = some (m.station, partGiven R ms j i m)

theorem waterFill_stopsAt (R : Nat) (ms : List Member) : ∃ j, StopsAt R ms j := by
  induction ms generalizing R with
  | nil => exact ⟨0, by simp, by simp, by simp, by simp⟩
  | cons m rest ih =>
    by_cases h : m.q ≤ R * m.w / totalWeight (m :: rest)
    · obtain ⟨j, place, fits, short, given⟩ := ih (R - m.q)
      have remains : ∀ n, R - (((m :: rest).take (n + 1)).map Member.q).sum = R - m.q - ((rest.take n).map Member.q).sum := fun n => by
        rw [List.take_succ_cons, List.map_cons, List.sum_cons, Nat.sub_sub]
      refine ⟨j + 1, by simpa using place, fun n hn a ha => ?_, fun a ha => ?_, fun i a ha => ?_⟩
      · cases n with
        | zero =>
          obtain rfl : m = a := by simpa using ha
          simpa [totalWeight] using h
        | succ n =>
          rw [remains, List.drop_succ_cons]
          exact fits n (Nat.lt_of_succ_lt_succ hn) a (by simpa using ha)
      · rw [remains, List.drop_succ_cons]
        exact short a (by simpa using ha)
      · rw [waterFill_fits h]
        cases i with
        | zero =>
          obtain rfl : m = a := by simpa using ha
          simp [partGiven]
        | succ i =>
          rw [List.getElem?_cons_succ, given i a (by simpa using ha), partGiven, partGiven, remains, List.drop_succ_cons]
          simp
    · refine ⟨0, Nat.zero_le _, fun n hn => absurd hn (Nat.not_lt_zero n), fun a ha => ?_, fun i a ha => ?_⟩
      · obtain rfl : m = a := by simpa using ha
        simpa [totalWeight] using h
      · rw [waterFill_stops (Nat.not_le.1 h), List.getElem?_map, ha]
        simp [partGiven, totalWeight]

/-! ## The bounds of the walk (R50) -/

/-- Behind a member that goes short, every member does. -/
theorem short_of_notAbove {r W : Nat} {a b : Member} (hb : Takes b) (hW : 0 < W) (order : NotAbove a b)
    (h : r * a.w / W < a.q) : r * b.w / W < b.q := by
  rw [Nat.div_lt_iff_lt_mul hW] at h ⊢
  refine Nat.lt_of_mul_lt_mul_right (a := a.w) ?_
  calc r * b.w * a.w = r * a.w * b.w := by ring
    _ < a.q * W * b.w := Nat.mul_lt_mul_of_pos_right h hb.1
    _ = a.q * b.w * W := by ring
    _ ≤ b.q * a.w * W := Nat.mul_le_mul_right _ order
    _ = b.q * W * a.w := by ring

theorem sum_parts_le (r W : Nat) (ms : List Member) : ((ms.map fun n => r * n.w / W).sum) ≤ r * (ms.map Member.w).sum / W := by
  induction ms with
  | nil => simp
  | cons m rest ih =>
    simp only [List.map_cons, List.sum_cons, Nat.mul_add]
    calc r * m.w / W + (rest.map fun n => r * n.w / W).sum ≤ r * m.w / W + r * (rest.map Member.w).sum / W := Nat.add_le_add_left ih _
      _ ≤ (r * m.w + r * (rest.map Member.w).sum) / W := Nat.div_add_div_le_add_div

theorem waterFill_sum (r : Nat) {ms : List Member} (h : ∀ m ∈ ms, Takes m) : ((waterFill r (totalWeight ms) ms).map Prod.snd).sum ≤ r := by
  induction ms generalizing r with
  | nil => simp [waterFill]
  | cons m rest ih =>
    have weight : 0 < totalWeight (m :: rest) := by have := (h m (by simp)).1; rw [totalWeight_cons]; omega
    by_cases fits : m.q ≤ r * m.w / totalWeight (m :: rest)
    · have part : r * m.w / totalWeight (m :: rest) ≤ r := by
        refine Nat.div_le_of_le_mul ?_
        rw [Nat.mul_comm]
        exact Nat.mul_le_mul_right r (by rw [totalWeight_cons]; omega)
      have := ih (r - m.q) fun n hn => h n (by simp [hn])
      rw [waterFill_fits fits, List.map_cons, List.sum_cons]
      dsimp only
      omega
    · rw [waterFill_stops (Nat.not_le.1 fits), List.map_map]
      refine (sum_parts_le r (totalWeight (m :: rest)) (m :: rest)).trans (Nat.div_le_of_le_mul ?_)
      rw [Nat.mul_comm]
      rfl

/-- R50 at each place: at most the demand, and below it from the place where the walk stops. -/
theorem partGiven_le {R j : Nat} {ms : List Member} (h : ∀ m ∈ ms, Takes m) (order : ms.Pairwise NotAbove) (stops : StopsAt R ms j)
    {i : Nat} {m : Member} (hm : ms[i]? = some m) : partGiven R ms j i m ≤ m.q ∧ (partGiven R ms j i m < m.q ↔ j ≤ i) := by
  unfold partGiven
  split
  · next hi => exact ⟨Nat.le_refl _, by omega⟩
  · next hi =>
    have below : (R - ((ms.take j).map Member.q).sum) * m.w / ((ms.drop j).map Member.w).sum < m.q := by
      obtain ⟨hlt, hm'⟩ := List.getElem?_eq_some_iff.1 hm
      have hj : j < ms.length := by omega
      have first : ms[j]? = some ms[j] := List.getElem?_eq_getElem hj
      have short := stops.short _ first
      obtain rfl | lt := Nat.eq_or_lt_of_le (Nat.not_lt.1 hi)
      · rw [first] at hm
        obtain rfl : ms[j] = m := by simpa using hm
        exact short
      · have ordered : NotAbove ms[j] m := by rw [← hm']; exact List.pairwise_iff_getElem.1 order j i hj hlt lt
        refine short_of_notAbove (h _ (List.mem_of_getElem? hm)) ?_ ordered short
        have positive := (h _ (List.getElem_mem hj)).1
        rw [List.drop_eq_getElem_cons hj, List.map_cons, List.sum_cons]
        omega
    exact ⟨below.le, by constructor <;> intro <;> omega⟩

theorem given_eq {R j : Nat} {ms : List Member} (stops : StopsAt R ms j) {i : Nat} (hi : i < ms.length)
    (hg : i < (waterFill R (totalWeight ms) ms).length) :
    (waterFill R (totalWeight ms) ms)[i] = (ms[i].station, partGiven R ms j i ms[i]) := by
  have := stops.given i ms[i] (List.getElem?_eq_getElem hi)
  rw [List.getElem?_eq_getElem hg] at this
  simpa using this

/-! ## The own share (R45 to R47) -/

theorem flexible_eq (e : PeerEntry) : e.flexible = decide e.Flexes := by
  have quiet : e.quiet = !decide (e.age ≤ 2) := by
    unfold PeerEntry.quiet Config.freshAge
    rw [← decide_not]
    exact decide_eq_decide.2 Nat.not_le.symm
  unfold PeerEntry.flexible
  rw [quiet, Bool.eq_iff_iff]
  simp [and_assoc]

theorem flexiblePeers_eq (ps : List PeerEntry) : flexiblePeers ps =
    (ps.filter fun e => decide e.Flexes).map fun e => { station := e.station, q := e.demand, w := e.weight } := by
  unfold flexiblePeers
  rw [funext flexible_eq]

theorem flexiblePeers_takes {ps : List PeerEntry} {m : Member} (h : m ∈ flexiblePeers ps) : Takes m ∧ ∃ e ∈ ps, e.station = m.station := by
  rw [flexiblePeers_eq] at h
  obtain ⟨e, he, rfl⟩ := List.mem_map.1 h
  obtain ⟨mem, flexes⟩ := List.mem_filter.1 he
  obtain ⟨-, -, -, weight, demand⟩ := of_decide_eq_true flexes
  exact ⟨⟨weight, demand⟩, e, mem, rfl⟩

theorem remainder_eq (budget : Nat) (ps : List PeerEntry) : budget - fixedReservations ps = remainder budget ps := by
  unfold fixedReservations allReservations remainder
  rw [funext flexible_eq]
  rfl

/-- The walk gives a station that stands once what stands at its place. -/
theorem givenTo_eq {given : List (Nat × Nat)} {i own part : Nat} (h : given[i]? = some (own, part))
    (once : ∀ j, j < i → ∀ g, given[j]? = some g → g.1 ≠ own) : givenTo own given = part := by
  obtain ⟨hi, eq⟩ := List.getElem?_eq_some_iff.1 h
  have found : given.find? (fun g => g.1 == own) = some (own, part) :=
    List.find?_eq_some_iff_getElem.2 ⟨by simp, i, hi, eq, fun j hj => by
      have := once j hj _ (List.getElem?_eq_getElem (hj.trans hi))
      simpa using this⟩
  rw [givenTo, found]
  rfl

/-- The own station as a member. -/
abbrev ownMember (own q w : Nat) : Member := { station := own, q := q, w := w }

/-- The set that the own station shares in. -/
def shareSet (ps : List PeerEntry) (own q w : Nat) : List Member := ownMember own q w :: flexiblePeers ps

section
variable {ps : List PeerEntry} {own q w : Nat}

theorem shareSet_takes (hw : 1 ≤ w) (hq : 1 ≤ q) : ∀ m ∈ shareSet ps own q w, Takes m := fun m hm => by
  obtain rfl | hm := List.mem_cons.1 hm
  · exact ⟨hw, hq⟩
  · exact (flexiblePeers_takes hm).1

/-- The own station's place in the sorted set, which no other member's number takes. -/
theorem ownPlace (others : ∀ e ∈ ps, e.station ≠ own) : ∃ i : Nat, (sortMembers (shareSet ps own q w))[i]? = some (ownMember own q w) ∧
    ∀ (j : Nat) (m : Member), (sortMembers (shareSet ps own q w))[j]? = some m → m.station = own → m = ownMember own q w := by
  have perm := sortMembers_perm (shareSet ps own q w)
  obtain ⟨i, hi, eq⟩ := List.mem_iff_getElem.1 (perm.mem_iff.2 (List.mem_cons_self ..))
  refine ⟨i, by rw [List.getElem?_eq_getElem hi, eq], fun j m hm same => ?_⟩
  obtain rfl | hm := List.mem_cons.1 (perm.subset (List.mem_of_getElem? hm))
  · rfl
  · obtain ⟨-, e, he, number⟩ := flexiblePeers_takes hm
    exact absurd (number.trans same) (others e he)

theorem ownShare_eq (budget : Nat) (hw : 1 ≤ w) (hq : 1 ≤ q) : ownShare budget ps own q w =
    givenTo own (waterFill (remainder budget ps) (totalWeight (sortMembers (shareSet ps own q w))) (sortMembers (shareSet ps own q w))) := by
  unfold ownShare
  rw [if_pos ⟨hw, hq⟩, remainder_eq]
  rfl

/-- The own share is the own station's part, at its first place. -/
theorem ownShare_part (budget : Nat) (hw : 1 ≤ w) (hq : 1 ≤ q) (others : ∀ e ∈ ps, e.station ≠ own) :
    ∃ i j, (sortMembers (shareSet ps own q w))[i]? = some (ownMember own q w) ∧
      StopsAt (remainder budget ps) (sortMembers (shareSet ps own q w)) j ∧
      ownShare budget ps own q w =
        partGiven (remainder budget ps) (sortMembers (shareSet ps own q w)) j i (ownMember own q w) := by
  rw [ownShare_eq budget hw hq]
  obtain ⟨place, hplace, unique⟩ := ownPlace (q := q) (w := w) others
  generalize sortMembers (shareSet ps own q w) = ms at *
  generalize remainder budget ps = R
  obtain ⟨j, stops⟩ := waterFill_stopsAt R ms
  have stands : ∃ i, ms[i]? = some (ownMember own q w) := ⟨place, hplace⟩
  classical
  refine ⟨Nat.find stands, j, Nat.find_spec stands, stops, givenTo_eq (stops.given _ _ (Nat.find_spec stands)) fun k hk g hg own_eq => ?_⟩
  have length : k < ms.length := by
    rw [← waterFill_length R ms]; exact (List.getElem?_eq_some_iff.1 hg).1
  have entry := stops.given k ms[k] (List.getElem?_eq_getElem length)
  rw [hg] at entry
  obtain rfl : g = (ms[k].station, partGiven R ms j k ms[k]) := by simpa using entry
  have member : ms[k]? = some ms[k] := List.getElem?_eq_getElem length
  exact Nat.find_min stands hk (by rw [member, unique k _ member own_eq])

theorem ownShare_le_demand (budget : Nat) (others : ∀ e ∈ ps, e.station ≠ own) : ownShare budget ps own q w ≤ q := by
  by_cases h : 1 ≤ w ∧ 1 ≤ q
  · obtain ⟨hw, hq⟩ := h
    obtain ⟨i, j, hi, stops, eq⟩ := ownShare_part budget hw hq others
    rw [eq]
    have takes := shareSet_takes (ps := ps) (own := own) hw hq
    exact (partGiven_le (fun m hm => takes m ((sortMembers_perm _).subset hm)) (sortMembers_ratios takes) stops hi).1
  · unfold ownShare; rw [if_neg h]; exact Nat.zero_le _

/-- R46 to R49: the own share, as the own station's part in the flexible set. -/
theorem ownShare_spec (budget : Nat) (others : ∀ e ∈ ps, e.station ≠ own) (distinct : (ps.map PeerEntry.station).Nodup) :
    OwnShare budget ps (ownMember own q w) (ownShare budget ps own q w) := by
  unfold OwnShare
  dsimp only
  by_cases h : 1 ≤ w ∧ 1 ≤ q
  · obtain ⟨hw, hq⟩ := h
    obtain ⟨i, j, hi, stops, eq⟩ := ownShare_part budget hw hq others
    have numbers : ((shareSet ps own q w).map Member.station).Nodup := by
      have peers : (flexiblePeers ps).map Member.station = (ps.filter fun e => decide e.Flexes).map PeerEntry.station := by
        rw [flexiblePeers_eq, List.map_map]; rfl
      refine List.nodup_cons.2 ⟨fun hmem => ?_, ?_⟩
      · obtain ⟨m, hm, same⟩ := List.mem_map.1 hmem
        obtain ⟨-, e, he, number⟩ := flexiblePeers_takes hm
        exact others e he (number.trans same)
      · rw [peers]
        exact distinct.sublist (List.filter_sublist.map _)
    rw [if_neg (by omega), eq]
    refine ⟨_, i, ?_, sortMembers_ahead (shareSet_takes hw hq) numbers, hi, j, stops.place, stops.fits, stops.short, rfl⟩
    refine (sortMembers_perm _).trans (List.Perm.of_eq ?_)
    rw [shareSet, flexiblePeers_eq]
  · unfold ownShare
    rw [if_neg h, if_pos (by omega)]

end

/-- Settles O49: the water-fill gives no member more than its demand and never more than it shares. -/
theorem waterFillBounds : Obligations.WaterFillBounds := by
  refine ⟨fun R ms takes order given hgiven => ?_, fun E ps own q w others => ownShare_le_demand E others,
    fun ms takes => ⟨sortMembers_perm ms, sortMembers_ratios takes⟩⟩
  subst hgiven
  obtain ⟨j, stops⟩ := waterFill_stopsAt R ms
  have bounds : ∀ i (hi : i < ms.length), partGiven R ms j i ms[i] ≤ ms[i].q ∧ (partGiven R ms j i ms[i] < ms[i].q ↔ j ≤ i) :=
    fun i hi => partGiven_le takes order stops (List.getElem?_eq_getElem hi)
  refine ⟨waterFill_stations R ms, fun i hi hg => ?_, waterFill_sum R takes, fun i k hi hk gi gk lt short => ?_⟩
  · rw [given_eq stops hi hg]; exact (bounds i hi).1
  · rw [given_eq stops hi gi] at short
    rw [given_eq stops hk gk]
    exact (bounds k hk).2.2 (((bounds i hi).2.1 short).trans lt.le)

end Sys2Proof.Proofs.WaterFill
end

section
/-! The tables, the figures, the ceiling and the claim of a round (R26, R31, R43 to R49, R51 to R54, R56 to R58, R64). -/

namespace Sys2Proof.Proofs.RoundFigures

open Machine OutletOperations StationWork RoundSteps ShareLaw RoundLaw ViewLaw Stopping Halts RoundMoves WaterFill

section
variable {s t : State} {x : Outlet}

/-! ## The curtail level (R31) -/

theorem foldr_min_le (l : List Nat) (top : Nat) : l.foldr min top ≤ top ∧ (∀ a ∈ l, l.foldr min top ≤ a) ∧
    (l.foldr min top = top ∨ l.foldr min top ∈ l) := by
  induction l with
  | nil => simp
  | cons a l ih =>
    obtain ⟨leTop, leAll, reached⟩ := ih
    rw [List.foldr_cons]
    refine ⟨(Nat.min_le_right _ _).trans leTop, fun b hb => ?_, ?_⟩
    · obtain rfl | hb := List.mem_cons.1 hb
      · exact Nat.min_le_left _ _
      · exact (Nat.min_le_right _ _).trans (leAll b hb)
    · rcases Nat.le_total a (l.foldr min top) with le | le
      · rw [Nat.min_eq_left le]; exact .inr (by simp)
      · rw [Nat.min_eq_right le]
        exact reached.imp id fun h => List.mem_cons_of_mem a h

theorem level_eq (s : State) : s.pv.level = (s.curtailEntries.map Prod.snd).foldr min 100 := by
  unfold PeerView.level State.curtailEntries
  rw [List.map_append, List.map_map, List.map_map]
  exact congrArg (List.foldr min 100) (congrArg (· ++ _) (List.map_id _).symm)

/-- R31: L is the lowest level of the list, and 100 without one. -/
theorem level_lowest (s : State) : (∀ l ∈ s.curtailEntries, s.pv.level ≤ l.2) ∧
    (s.pv.level = 100 ∨ ∃ l ∈ s.curtailEntries, l.2 = s.pv.level) ∧ (s.curtailEntries = [] → s.pv.level = 100) := by
  obtain ⟨-, le, reached⟩ := foldr_min_le (s.curtailEntries.map Prod.snd) 100
  rw [← level_eq] at le reached
  refine ⟨fun l hl => le _ (List.mem_map_of_mem hl), reached.imp id fun h => ?_, fun none => ?_⟩
  · obtain ⟨l, hl, same⟩ := List.mem_map.1 h
    exact ⟨l, hl, same⟩
  · rw [level_eq, none]; rfl

/-- R31: CURTAIL follows a change of L alone. -/
theorem computed_curtail (s : State) : (computed s).isPending .curtail =
    (s.isPending .curtail || decide ((computed s).pv.level ≠ s.pv.level)) := by
  have step : (computed s).isPending .curtail = s.roundAgeing.roundState.isPending .curtail :=
    isPending_of_pk (roundArithmetic_frame _).2.2.2.2.2.2.2.2.2.2.1
  have moved : s.roundAgeing.roundState.isPending .curtail = s.roundAgeing.isPending .curtail := by
    unfold State.roundState
    dsimp only
    split
    · rfl
    · exact (isPending_raise _ _ _).trans (Bool.or_false _)
  rw [step, moved, (computed_frame s).2.2.1]
  unfold State.roundAgeing State.setView
  dsimp only
  split
  · next h => rw [decide_eq_false (not_not_intro h), Bool.or_false]; rfl
  · next h =>
    rw [decide_eq_true h]
    exact (isPending_raise _ _ _).trans (by simp)

/-! ## What the arithmetic reads (R42, R43) -/

theorem outletDemand_a (s : State) : s.outletDemand .a = if s.outA.sc.state = .energising then s.outA.sc.requested else 0 := by
  unfold State.outletDemand
  rw [show s.fitted .a = true from rfl]
  simp

theorem outletDemand_b (s : State) : s.outletDemand .b =
    if s.cf.straps.twoOutlets = true ∧ s.outB.sc.state = .energising then s.outB.sc.requested else 0 := rfl

/-- The state that the arithmetic of a round works on. -/
def aged (s : State) : State := s.roundAgeing.roundState

theorem aged_frame (s : State) : (aged s).cf = s.cf ∧ (aged s).se = movedEngine s ∧ (aged s).outA = s.outA ∧ (aged s).outB = s.outB ∧
    (aged s).pv = { s.pv with peers := agePeers s.pv.peers, curtail := ageCurtail s.pv.curtail } := by
  have same : movedEngine s.roundAgeing = movedEngine s := by simp [movedEngine]
  simp [aged, same]

theorem movedEngine_outcome (s : State) : (movedEngine s).prevAcked = (s.se.frameBuilt && s.se.ackReported) ∧
    (movedEngine s).prevClaim = (if s.se.frameBuilt = true then s.se.frameClaim else 0) ∧ (movedEngine s).ceiling = s.se.ceiling ∧
    (movedEngine s).claim = s.se.claim := by
  obtain ⟨ceiling, claim, prevAcked, prevClaim⟩ := transition_fixed s.se.fixOutcome.tick ((s.cf.config.map Configuration.fallback).getD 0)
  have outcome := fixOutcome_tick s.se
  unfold movedEngine
  rw [ceiling, claim, prevAcked, prevClaim, outcome]
  exact ⟨rfl, rfl, rfl, rfl⟩

/-- R44 to R58 in SHARING, not halted, with the figures written out. -/
theorem shared_figures {k : Configuration} (s : State) :
    (loweredCeiling s k = min s.se.ceiling (min (s.roundShare k) (s.ownDemand k))) ∧
    (roundRoom s k = s.roundBudget k - (s.pv.peers.map fun e => max e.ceiling (max e.claim e.draw)).sum - loweredCeiling s k) ∧
    (sharedCeiling s k = if s.se.prevAcked = true then
      max (loweredCeiling s k) (min s.se.prevClaim (min (s.roundShare k) (min (s.ownDemand k) (loweredCeiling s k + roundRoom s k))))
      else loweredCeiling s k) := ⟨rfl, rfl, rfl⟩

theorem inactive_of {st : ShareState} (h : st = .unconfigured ∨ st = .barred) : st.active = false := by
  obtain h | h := h <;> rw [h] <;> rfl

/-- What a round at which no site trip repeats hands to the statement, from the arithmetic on the tables as aged. -/
structure Rounded (s t : State) : Prop where
  pv : t.pv = (aged s).pv
  cf : t.cf = s.cf
  figures : t.se.figures = (aged s).roundArithmetic.se.figures
  ceiling : t.se.ceiling = (aged s).roundArithmetic.se.ceiling
  claim : t.se.claim = (aged s).roundArithmetic.se.claim
  state : t.se.state = (aged s).se.state
  timer : t.se.timer = (aged s).se.timer
  cap : t.se.cap = (aged s).se.cap
  curtail : t.isPending .curtail = (s.isPending .curtail || decide (t.pv.level ≠ s.pv.level))

theorem round_rounded (quiet : s.cf.config = none ∨ s.se.tripInput = false ∨ s.se.tripRepeat < 3) :
    Rounded s (announced s).roundOriginate := by
  obtain ⟨acf, apv, -⟩ := announced_frame s
  obtain ⟨-, input, count⟩ := announced_trip s
  have view : (announced s).pv = (aged s).pv := apv.trans (aged_frame s).2.2.2.2.symm
  have engine := announced_se s
  have kept := roundArithmetic_eq (aged s)
  have pending : (announced s).isPending .curtail = (computed s).isPending .curtail := isPending_of_pk (announced_pk s)
  rw [computed_curtail, (computed_frame s).2.2.1, ← apv] at pending
  rw [roundOriginate_steady (s := announced s) (by rw [acf, input, count]; exact quiet)]
  refine ⟨view, acf, ?_, ?_, ?_, ?_, ?_, ?_, pending⟩
  · dsimp only; rw [engine]; rfl
  · dsimp only; rw [engine]; rfl
  · dsimp only; rw [engine]; rfl
  · have same := congrArg (fun u : State => u.se.state) kept
    dsimp only; rw [engine]; exact same
  · have same := congrArg (fun u : State => u.se.timer) kept
    dsimp only; rw [engine]; exact same
  · have same := congrArg (fun u : State => u.se.cap) kept
    dsimp only; rw [engine]; exact same

theorem roundBudget_eq (s : State) (k : Configuration) : s.roundBudget k =
    k.budget * s.pv.level / 100 - k.margin - k.fallback * (k.population - (s.pv.peers.length + 1)) := rfl

theorem isolatedCeiling_eq (k : Configuration) (timer c q : Nat) : isolatedCeiling k timer c q =
    if timer ≤ 1 then min c k.fallback else if timer ≤ 8 then c else min k.fallback (min q (c + k.ramp)) := by
  simp [isolatedCeiling, Config.joinRounds, Nat.lt_succ_iff]

/-- R46 to R49 over the tables of a lawful view. -/
theorem roundShare_spec (law : s.ViewLaw) (k : Configuration) :
    OwnShare (s.roundBudget k) s.pv.peers { station := s.ownStation, q := s.ownDemand k, w := s.ownWeight } (s.roundShare k) := by
  obtain ⟨ascending, entries, -⟩ := law
  refine ownShare_spec _ (fun e he => ?_) (List.pairwise_map.2 (ascending.imp fun h => Nat.ne_of_lt h))
  obtain ⟨-, other, -⟩ := entries e he
  exact other

/-- Settles O47: a round's tables as aged, its curtail level, figures, own share, ceiling and claim. -/
theorem roundArithmetic : Obligations.RoundArithmetic := by
  intro s quiet law
  refine ⟨_, exec_round s, ?_⟩
  have rounded := round_rounded quiet
  generalize (announced s).roundOriginate = t at *
  obtain ⟨pv, cf, figures, ceiling, claim, state, timer, cap, curtail⟩ := rounded
  obtain ⟨vcf, vse, vA, vB, vpv⟩ := aged_frame s
  have agedLaw : (aged s).ViewLaw := by
    obtain ⟨scf, -, spv, sse, -⟩ := roundState_frame s.roundAgeing
    exact viewLaw_of_same (t := aged s) spv (congrArg (·.config) scf) (congrArg (·.straps) scf)
      ((congrArg ShareEngine.origin sse).trans (movedEngine_kept _).1) (viewLaw_roundAgeing law)
  obtain ⟨lowest, reached, blank⟩ := level_lowest t
  obtain ⟨acked, claimed, oldCeiling, oldClaim⟩ := movedEngine_outcome s
  have view : (aged s).pv.isHalted = s.pv.isHalted := by rw [vpv]; rfl
  have demandA : (aged s).outletDemand .a = s.outletDemand .a := by rw [outletDemand_a, outletDemand_a, vA]
  have demandB : (aged s).outletDemand .b = s.outletDemand .b := by rw [outletDemand_b, outletDemand_b, vB, vcf]
  rw [← vse] at acked claimed oldCeiling oldClaim
  refine ⟨pv.trans vpv, lowest, reached, blank, curtail, fun inactive => ?_, fun k hk E qA qB q w hE hqA hqB hq hw => ?_⟩
  · rw [state] at inactive
    rw [figures, ceiling, claim, roundArithmetic_inactive _ (inactive_of inactive)]
    exact ⟨rfl, oldCeiling, oldClaim⟩
  · have config : (aged s).cf.config = some k := by rw [vcf]; exact hk
    rw [← outletDemand_a] at hqA
    rw [← outletDemand_b] at hqB
    have budget : (aged s).roundBudget k = E := by rw [hE, roundBudget_eq, pv]
    have demand : (aged s).ownDemand k = q := by rw [hq, hqA, hqB, State.ownDemand, demandA, demandB]
    have weight : (aged s).ownWeight = w := by rw [hw, hqA, hqB, State.ownWeight, demandA, demandB]
    have number : (aged s).ownStation = s.ownStation := by rw [State.ownStation, vcf]; rfl
    refine ⟨fun holds => ?_, fun sharing halted => ?_⟩
    · rw [figures, ceiling, claim, cap, timer]
      rw [state] at holds ⊢
      obtain joining | isolated | ⟨sharing, halted⟩ := holds
      · rw [roundArithmetic_joining config joining, budget, view, oldCeiling, if_pos joining]
        exact ⟨rfl, rfl, rfl⟩
      · rw [roundArithmetic_isolated config isolated, budget, view, oldCeiling, demand, isolatedCeiling_eq,
          if_neg (show ¬ (aged s).se.state = .joining by rw [isolated]; decide)]
        exact ⟨rfl, rfl, rfl⟩
      · rw [roundArithmetic_sharing_halted config sharing (view.trans halted), budget, if_pos halted]
        exact ⟨rfl, rfl, rfl⟩
    · rw [state] at sharing
      have share := roundShare_spec agedLaw k
      obtain ⟨low, room, raise⟩ := shared_figures (k := k) (aged s)
      rw [budget, number, demand, weight, ← pv] at share
      rw [demand, oldCeiling] at low
      rw [budget, ← pv] at room
      rw [demand, acked, claimed] at raise
      have arith := roundArithmetic_sharing config sharing (by rw [view, halted]; decide)
      rw [budget, demand] at arith
      refine ⟨_, _, _, share, low, room, by rw [figures, arith], ?_, by rw [claim, ceiling, arith]; rfl⟩
      rw [ceiling, arith]
      refine raise.trans ?_
      cases hb : s.se.frameBuilt with
      | false => rfl
      | true => simp

end

end Sys2Proof.Proofs.RoundFigures
end

section
/-! The split, the draws, the frames and the repeated site trip of a round (R59 to R63, R81, R82, R117, R132). -/

namespace Sys2Proof.Proofs.RoundFrames

open Machine OutletOperations StationWork StandingOrders RoundSteps ShareLaw RoundLaw Stopping OutletLaws OutletLawKept OutletLawSteps
open StationWide StopAndClash Halts ReceivedFrames RoundMoves RoundFigures

section
variable {s t : State} {x : Outlet}

/-! ## Frames placed on the line (R9) -/

/-- The line interface with a frame placed. -/
def placedLine (l : LineInterface) (k : FrameKind) (bytes : List Byte) : LineInterface :=
  { l.setSlot k (some bytes) with activity := l.activity.replace k }

theorem placeFrame_free (h : s.se.state ≠ .barred) (k : FrameKind) (bytes : List Byte) :
    s.placeFrame k bytes = { s with li := placedLine s.li k bytes } := if_neg h

theorem placeFrame_line (h : s.se.state ≠ .barred) (k : FrameKind) (bytes : List Byte) : (s.placeFrame k bytes).li = placedLine s.li k bytes := by
  rw [placeFrame_free h]

/-- The line interface with the frames of a round offered: an ANNOUNCE, and then a CURTAIL. -/
def offeredLine (l : LineInterface) (announce curtail : Option (List Byte)) : LineInterface :=
  curtail.elim (announce.elim l (placedLine l .announce)) fun bytes => placedLine (announce.elim l (placedLine l .announce)) .curtail bytes

section
variable (l : LineInterface) (announce curtail : Option (List Byte))

theorem offeredLine_eq : offeredLine l announce curtail = { l with
    activity := (offeredLine l announce curtail).activity, curtailSlot := (offeredLine l announce curtail).curtailSlot
    announceSlot := (offeredLine l announce curtail).announceSlot } := by
  cases announce <;> cases curtail <;> rfl

theorem offeredLine_slots : (offeredLine l announce curtail).slot .announce = announce.or (l.slot .announce) ∧
    (offeredLine l announce curtail).slot .curtail = curtail.or (l.slot .curtail) ∧
    (offeredLine l announce curtail).slot .halt = l.slot .halt := by
  cases announce <;> cases curtail <;> exact ⟨rfl, rfl, rfl⟩

theorem offeredLine_sending {j : FrameKind} {old : List Byte} {replaced : Bool} (h : l.activity = .sending j old replaced) :
    (offeredLine l announce curtail).activity = .sending j old (replaced || decide (j = .announce ∧ announce.isSome = true) ||
      decide (j = .curtail ∧ curtail.isSome = true)) := by
  cases announce <;> cases curtail <;> simp [offeredLine, placedLine, LineActivity.replace, h]

theorem offeredLine_other (h : ∀ j old replaced, l.activity ≠ .sending j old replaced) :
    (offeredLine l announce curtail).activity = l.activity := by
  cases ha : l.activity with
  | sending j old replaced => exact absurd ha (h j old replaced)
  | receiving => cases announce <;> cases curtail <;> simp [offeredLine, placedLine, LineActivity.replace, ha]
  | quiet => cases announce <;> cases curtail <;> simp [offeredLine, placedLine, LineActivity.replace, ha]

end

/-! ## The draws (R117) -/

/-- The round after the split and the draws. -/
def drawn (s : State) : State := ((computed s).roundSplit.recordDraw .a).recordDraw .b

theorem announced_eq (s : State) : announced s = (drawn s).roundAnnounce := rfl

theorem drawn_mu (s : State) (x : Outlet) : ((drawn s).outlet x).mu = { ((computed s).roundSplit.outlet x).mu with
    lastDraw := (computed s).roundSplit.outletDraw x, powerSum := 0, sampleCount := 0 } := by
  obtain ⟨v, same, cf, -, out, -⟩ := both_outlet (fun u y => u.recordDraw y) recordDraw_work (computed s).roundSplit x
  have draw : v.outletDraw x = (computed s).roundSplit.outletDraw x := by
    unfold State.outletDraw
    rw [same, fitted_of_cf cf]
  unfold drawn
  rw [out, State.recordDraw, State.modMu_same, draw, same]

theorem outletDraw_eq (s : State) (x : Outlet) : s.outletDraw x =
    if s.fitted x = true ∧ (s.outlet x).sc.state = .energising then
      if (s.outlet x).mu.sampleCount = 0 then (s.outlet x).sp.inForce
      else (s.outlet x).mu.powerSum / (s.outlet x).mu.sampleCount / 10000
    else 0 := by
  unfold State.outletDraw
  by_cases h : (s.outlet x).mu.sampleCount = 0
  · simp [h]
  · have sampled : 1 ≤ (s.outlet x).mu.sampleCount := Nat.one_le_iff_ne_zero.2 h
    simp [h, sampled, Config.perPowerUnit]

theorem announced_mu (s : State) (x : Outlet) : ((announced s).outlet x).mu = { (s.outlet x).mu with
    powerSum := 0, sampleCount := 0
    lastDraw := if s.fitted x = true ∧ (s.outlet x).sc.state = .energising then
        if (s.outlet x).mu.sampleCount = 0 then ((announced s).outlet x).sp.inForce
        else (s.outlet x).mu.powerSum / (s.outlet x).mu.sampleCount / 10000
      else 0 } := by
  have before : (computed s).outlet x = s.outlet x := computed_outlet s x
  have cf : (computed s).roundSplit.cf = s.cf := (roundSplit_frame _).1.trans (computed_frame s).1
  rw [announced_sp, announced_eq, roundAnnounce_outlet, drawn_mu, outletDraw_eq, roundSplit_mu, roundSplit_state, before, fitted_of_cf cf]

/-! ## The split and its orders (R59, R60, R132) -/

/-- R92: the ceiling record after an order. -/
theorem order_record (v : Nat) : ((s.order x v).outlet x).sp = (if (s.outlet x).sp.ordered = v then (s.outlet x).sp
      else { (s.outlet x).sp with ordered := v, isConfirmed := false, orderTimer := .running }) ∧
    (s.order x v).stageTx = s.stageTx ++ if (s.outlet x).sp.ordered = v then [] else [{ outlet := x, value := v }] := by
  obtain ⟨same, other⟩ := s.order_spec x v
  split
  · next h => rw [same h.symm]; simp
  · next h => exact other (Ne.symm h)

theorem splitCeiling_eq {C qA qB cA cB : Nat} (hA : cA = if qA + qB ≤ C then qA else if qA ≤ qB then min qA (C / 2) else min qA (C - cB))
    (hB : cB = if qA + qB ≤ C then qB else if qA ≤ qB then min qB (C - cA) else min qB (C / 2)) : splitCeiling C qA qB = (cA, cB) := by
  unfold splitCeiling
  by_cases h : qA + qB ≤ C
  · rw [if_pos h] at hA hB ⊢
    rw [hA, hB]
  · rw [if_neg h] at hA hB ⊢
    by_cases g : qA ≤ qB
    · rw [if_pos g] at hA hB ⊢
      rw [hB, hA]
    · rw [if_neg g] at hA hB ⊢
      rw [hA, hB]

/-- What the split makes of the two outlets. -/
structure Split (s t : State) (cA cB : Nat) : Prop where
  portA : t.outA.sp = if s.outA.sp.ordered = cA then s.outA.sp
    else { s.outA.sp with ordered := cA, isConfirmed := false, orderTimer := .running }
  portB : t.outB.sp = if s.outB.sp.ordered = cB then s.outB.sp
    else { s.outB.sp with ordered := cB, isConfirmed := false, orderTimer := .running }
  stageTx : t.stageTx = s.stageTx ++ (if s.outA.sp.ordered = cA then [] else [{ outlet := .a, value := cA }]) ++
    (if s.outB.sp.ordered = cB then [] else [{ outlet := .b, value := cB }])
  marks : ∀ x, (t.outlet x).sc = { (s.outlet x).sc with session := (s.outlet x).sc.session.map fun r => { r with flags := { r.flags with
    reduced := r.flags.reduced || decide ((s.outlet x).sc.state = .energising ∧
      (match x with | .a => cA | .b => cB) < (s.outlet x).sc.requested) } } }

theorem giveBoth_split (s : State) (cA cB : Nat) : Split s ((s.giveCeiling .a cA).giveCeiling .b cB) cA cB := by
  have other : (s.giveCeiling .a cA).outlet .b = s.outlet .b := giveCeiling_other s .a cA .b (by decide)
  have first : ((s.giveCeiling .a cA).giveCeiling .b cB).outlet .a = (s.giveCeiling .a cA).outlet .a :=
    giveCeiling_other _ .b cB .a (by decide)
  refine ⟨?_, ?_, ?_, fun x => ?_⟩
  · rw [← State.outlet_a, first, giveCeiling_sp]; exact order_record (s := s) (x := .a) cA |>.1
  · rw [← State.outlet_b, giveCeiling_sp, (order_record (x := .b) cB).1, other]; rfl
  · rw [(giveCeiling_frame _ .b cB).2.2.2.2.2.1, (order_record (x := .b) cB).2, other, (giveCeiling_frame s .a cA).2.2.2.2.2.1,
      (order_record (x := .a) cA).2]
    rfl
  · cases x with
    | a => rw [first, giveCeiling_sc]
    | b => rw [giveCeiling_sc, other]

/-! ## The frames of a round -/

/-- The ANNOUNCE of a round, in a share state that takes part. -/
def announcement (s : State) : Option (List Byte) :=
  if (computed s).se.state.active = true then
    s.cf.config.map fun k => parkFrame .announce s.ownStation ({ drawn s with se := { (drawn s).se with parity := !(drawn s).se.parity } }.announcePayload k)
  else none

/-- The CURTAIL of a round, of an own origin below 100. -/
def curtailment (s : State) : Option (List Byte) :=
  if s.se.origin < 100 ∧ s.se.state ≠ .barred then some (parkFrame .curtail s.ownStation [BitVec.ofNat 8 s.se.origin]) else none

theorem drawn_frame (s : State) : (drawn s).cf = s.cf ∧ (drawn s).li = s.li ∧ (drawn s).se = (computed s).se ∧
    (drawn s).pv = { s.pv with peers := agePeers s.pv.peers, curtail := ageCurtail s.pv.curtail } := by
  simp [drawn]

theorem not_barred_of_active {st : ShareState} (h : st.active = true) : st ≠ .barred := fun g => by rw [g] at h; cases h

theorem announced_line (s : State) : (announced s).li = (announcement s).elim s.li (placedLine s.li .announce) := by
  obtain ⟨cf, li, se, -⟩ := drawn_frame s
  rw [announced_eq]
  unfold State.roundAnnounce announcement
  dsimp only
  rw [cf]
  cases hk : s.cf.config with
  | none => dsimp only; split <;> exact li
  | some k =>
    dsimp only
    rw [se]
    by_cases active : (computed s).se.state.active = true
    · rw [if_pos active, if_pos active, placeFrame_line]
      · have number : (drawn s).ownStation = s.ownStation := by rw [State.ownStation, cf]; rfl
        rw [number, li]
        rfl
      · exact not_barred_of_active active
    · rw [if_neg active, if_neg active]
      exact li

theorem announced_barred (s : State) : (announced s).se.state = .barred ↔ s.se.state = .barred := by
  have same : (announced s).se.state = (aged s).se.state := by
    have kept := congrArg (fun u : State => u.se.state) (roundArithmetic_eq (aged s))
    rw [announced_se]; exact kept
  rw [same]
  exact (moved_roundState s).barred

theorem round_line (s : State) : (originated (announced s)).li = offeredLine s.li (announcement s) (curtailment s) := by
  obtain ⟨origin, -, -⟩ := announced_trip s
  have number : (announced s).ownStation = s.ownStation := by rw [State.ownStation, (announced_frame s).1]; rfl
  unfold originated curtailment offeredLine State.placeCurtail
  rw [origin, number]
  by_cases low : s.se.origin < 100
  · rw [if_pos low]
    by_cases barred : s.se.state = .barred
    · rw [if_neg fun h => h.2 barred, (State.placeFrame_spec _ _ _).1 ((announced_barred s).2 barred)]
      exact announced_line s
    · rw [if_pos ⟨low, barred⟩, placeFrame_line fun h => barred ((announced_barred s).1 h), announced_line]
      rfl
  · rw [if_neg low, if_neg fun h => low h.1]
    exact announced_line s

/-! ## The round at which no site trip repeats -/

theorem announced_shape (s : State) : announced s = { s with
    li := (announced s).li, pv := (announced s).pv, se := (announced s).se, outA := (announced s).outA, outB := (announced s).outB
    stageTx := (announced s).stageTx, pk := { s.pk with edge := (announced s).pk.edge } } := by
  obtain ⟨cf, -, estop, nextId, ts, sq, pending⟩ := announced_frame s
  have link : (announced s).pk = { s.pk with edge := (announced s).pk.edge } := by
    have pk : (announced s).pk = s.roundAgeing.roundState.pk := (announced_pk s).trans (roundArithmetic_frame _).2.2.2.2.2.2.2.2.2.2.1
    rw [pk, roundState_pk, State.roundAgeing, setView_pk]
  generalize announced s = t at *
  cases t
  dsimp only at *
  subst cf estop nextId ts sq pending
  congr 1

theorem announced_ceiling (s : State) : (announced s).se.ceiling = (computed s).se.ceiling := by rw [announced_se]

theorem inactive_split (h : (computed s).se.state.active = false) : (computed s).roundSplit = computed s := by
  unfold State.roundSplit
  rw [if_neg (by rw [h]; decide)]

theorem giveCeiling_requested (s : State) (x : Outlet) (c : Nat) (y : Outlet) :
    ((s.giveCeiling x c).outlet y).sc.requested = (s.outlet y).sc.requested := by
  by_cases h : y = x
  · subst h; rw [giveCeiling_sc]
  · rw [giveCeiling_other s x c y h]

theorem drawn_demand (s : State) (x : Outlet) : (drawn s).outletDemand x = s.outletDemand x := by
  have sc : ((drawn s).outlet x).sc = ((computed s).roundSplit.outlet x).sc := by simp [drawn]
  have requested : ((computed s).roundSplit.outlet x).sc.requested = (s.outlet x).sc.requested := by
    rw [← computed_outlet s x]
    unfold State.roundSplit
    split
    · dsimp only; rw [giveCeiling_requested, giveCeiling_requested]
    · rfl
  unfold State.outletDemand
  rw [sc, requested, roundSplit_state, computed_outlet, fitted_of_cf (drawn_frame s).1]

theorem announcement_isSome (s : State) : (announcement s).isSome = (announced s).se.frameBuilt := by
  rw [announced_se]
  unfold announcement
  cases s.cf.config <;> cases (computed s).se.state.active <;> rfl

theorem curtailment_isSome (s : State) : (curtailment s).isSome = true ↔ s.se.origin < 100 ∧ s.se.state ≠ .barred := by
  unfold curtailment
  split
  · next h => exact iff_of_true rfl h
  · next h => exact iff_of_false (by simp) h

/-- R63: the payload of the round's ANNOUNCE, by what the round leaves. -/
theorem announcePayload_eq (s : State) (k : Configuration) :
    ({ drawn s with se := { (drawn s).se with parity := !(drawn s).se.parity } } : State).announcePayload k =
      bitsByte [decide ((announced s).se.state = .joining), s.pv.isHalted] :: bytesOf 1 s.ownWeight ++
      bytesOf 2 (min (s.outletDemand .a + s.outletDemand .b) k.rated) ++
      bytesOf 2 (min 65535 (max (announced s).se.ceiling ((announced s).outA.sp.inForce + (announced s).outB.sp.inForce))) ++
      bytesOf 2 (announced s).se.claim ++
      bytesOf 2 (min 65535 ((announced s).outA.mu.lastDraw + (announced s).outB.mu.lastDraw)) ++ bytesOf 1 (announced s).se.parity.toNat := by
  obtain ⟨-, -, se, pv⟩ := drawn_frame s
  have outlets : ∀ x, (announced s).outlet x = (drawn s).outlet x := fun x => by rw [announced_eq, roundAnnounce_outlet]
  have outA : (announced s).outA = (drawn s).outA := outlets .a
  have outB : (announced s).outB = (drawn s).outB := outlets .b
  have demand : ∀ x, ({ drawn s with se := { (drawn s).se with parity := !(drawn s).se.parity } } : State).outletDemand x = s.outletDemand x :=
    fun x => (show _ = (drawn s).outletDemand x by cases x <;> rfl).trans (drawn_demand s x)
  unfold State.announcePayload State.ownDemand State.ownWeight
  rw [demand, demand]
  dsimp only
  rw [announced_se, outA, outB, pv, se]
  rfl

theorem announcement_eq {k : Configuration} (hk : s.cf.config = some k) (active : (computed s).se.state.active = true) : announcement s =
    some (parkFrame .announce s.ownStation
      (bitsByte [decide ((announced s).se.state = .joining), s.pv.isHalted] :: bytesOf 1 s.ownWeight ++
      bytesOf 2 (min (s.outletDemand .a + s.outletDemand .b) k.rated) ++
      bytesOf 2 (min 65535 (max (announced s).se.ceiling ((announced s).outA.sp.inForce + (announced s).outB.sp.inForce))) ++
      bytesOf 2 (announced s).se.claim ++
      bytesOf 2 (min 65535 ((announced s).outA.mu.lastDraw + (announced s).outB.mu.lastDraw)) ++ bytesOf 1 (announced s).se.parity.toNat)) := by
  rw [← announcePayload_eq]
  unfold announcement
  rw [if_pos active, hk]
  rfl

/-- The round at which no site trip repeats, as one state. -/
theorem exec_round_steady (quiet : s.cf.config = none ∨ s.se.tripInput = false ∨ s.se.tripRepeat < 3) : exec .round s = .next { announced s with
    li := offeredLine s.li (announcement s) (curtailment s)
    se := { (announced s).se with
      tripRepeat := s.se.tripRepeat + if s.cf.config.isSome = true ∧ s.se.tripInput = true then 1 else 0 } } := by
  obtain ⟨cf, -⟩ := announced_frame s
  obtain ⟨-, input, count⟩ := announced_trip s
  rw [exec_round, roundOriginate_steady (s := announced s) (by rw [cf, input, count]; exact quiet), round_line]
  simp only [cf, input, count]

/-! ## The round while the site trip stays asserted (R82) -/

/-- The state with the site-trip input read as released. -/
def released (s : State) : State := { s with se := { s.se with tripInput := false } }

theorem released_ageing (s : State) : (released s).roundAgeing = released s.roundAgeing := by
  unfold State.roundAgeing
  rw [setView_eq, setView_eq]
  rfl

theorem released_transition (e : ShareEngine) (f : Nat) :
    ({ e with tripInput := false } : ShareEngine).transition f = { e.transition f with tripInput := false } := by
  unfold ShareEngine.transition ShareEngine.enterAtRound
  dsimp only
  cases hs : e.state with
  | unconfigured => dsimp only; rw [hs]
  | barred => dsimp only; rw [hs]
  | joining =>
    dsimp only
    split
    · rfl
    · split
      · rfl
      · rw [hs]
  | sharing =>
    dsimp only
    split
    · rfl
    · rw [hs]
  | isolated =>
    dsimp only
    split
    · rfl
    · rw [hs]

theorem released_state (s : State) : (released s).roundState = released s.roundState := by
  have outcome : (released s).se.fixOutcome.tick = { s.se.fixOutcome.tick with tripInput := false } := by
    rw [fixOutcome_tick, fixOutcome_tick]; rfl
  have engine : movedEngine (released s) = { movedEngine s with tripInput := false } := by
    unfold movedEngine
    rw [outcome, released_transition]
    rfl
  unfold State.roundState
  rw [← movedEngine, ← movedEngine, engine]
  dsimp only
  by_cases h : (movedEngine s).state = s.se.state
  · rw [if_pos h, if_pos (show (movedEngine s).state = (released s).se.state from h)]; rfl
  · rw [if_neg h, if_neg (show ¬ (movedEngine s).state = (released s).se.state from h)]; rfl

theorem released_arithmetic (s : State) : (released s).roundArithmetic = released s.roundArithmetic := by
  have config : (released s).cf.config = s.cf.config := rfl
  unfold State.roundArithmetic
  rw [config]
  cases s.cf.config with
  | none => rfl
  | some k =>
    dsimp only
    have state : (released s).se.state = s.se.state := rfl
    rw [state]
    cases s.se.state with
    | sharing =>
      dsimp only
      by_cases h : s.pv.isHalted = true
      · rw [if_pos h, if_pos (show (released s).pv.isHalted = true from h)]; rfl
      · rw [if_neg h, if_neg (show ¬ (released s).pv.isHalted = true from h)]; rfl
    | _ => rfl

theorem released_order (s : State) (x : Outlet) (v : Nat) : (released s).order x v = released (s.order x v) := by
  have same : (released s).outlet x = s.outlet x := outlet_congr rfl rfl x
  unfold State.order
  rw [same]
  split
  · rfl
  · cases x <;> rfl

theorem released_giveCeiling (s : State) (x : Outlet) (c : Nat) : (released s).giveCeiling x c = released (s.giveCeiling x c) := by
  have same : (released s).outlet x = s.outlet x := outlet_congr rfl rfl x
  unfold State.giveCeiling
  dsimp only
  rw [same, released_order]
  split
  · cases x <;> rfl
  · rfl

theorem released_split (s : State) : (released s).roundSplit = released s.roundSplit := by
  have active : (released s).se.state.active = s.se.state.active := rfl
  have demand : ∀ x, (released s).outletDemand x = s.outletDemand x := fun x => by cases x <;> rfl
  have ceiling : (released s).se.ceiling = s.se.ceiling := rfl
  unfold State.roundSplit
  rw [active, demand, demand, ceiling]
  split
  · dsimp only; rw [released_giveCeiling, released_giveCeiling]
  · rfl

theorem released_draw (s : State) (x : Outlet) : (released s).recordDraw x = released (s.recordDraw x) := by cases x <;> rfl

theorem released_announce (s : State) : (released s).roundAnnounce = released s.roundAnnounce := by
  have config : (released s).cf.config = s.cf.config := rfl
  unfold State.roundAnnounce
  dsimp only
  rw [config]
  cases s.cf.config with
  | none => rfl
  | some k =>
    dsimp only
    have state : (released s).se.state = s.se.state := rfl
    rw [state]
    by_cases active : s.se.state.active = true
    · rw [if_pos active, if_pos active]
      have free := not_barred_of_active active
      rw [placeFrame_free, placeFrame_free]
      · rfl
      · exact free
      · exact free
    · rw [if_neg active, if_neg active]; rfl

/-- The trip input plays no part in a round before its last step. -/
theorem released_announced (s : State) : announced (released s) = released (announced s) := by
  unfold announced computed
  rw [released_ageing, released_state, released_arithmetic, released_split, released_draw, released_draw, released_announce]

theorem released_originated (s : State) : originated (released s) = released (originated s) := by
  unfold originated State.placeCurtail State.placeFrame
  by_cases low : s.se.origin < 100
  · by_cases barred : s.se.state = .barred
    · rw [if_pos (show (released s).se.origin < 100 from low), if_pos low, if_pos barred,
        if_pos (show (released s).se.state = .barred from barred)]
    · rw [if_pos (show (released s).se.origin < 100 from low), if_pos low, if_neg barred,
        if_neg (show ¬ (released s).se.state = .barred from barred)]
      rfl
  · rw [if_neg low, if_neg (show ¬ (released s).se.origin < 100 from low)]

theorem exec_round_released (s : State) : exec .round (released s) = .next (released (originated (announced s))) := by
  rw [exec_round, released_announced, roundOriginate_quiet (.inr rfl), released_originated]

/-- Settles O48: a round's split and orders, its draws, its frames and the repeat of a site trip. -/
theorem roundOrdersAndFrames : Obligations.RoundOrdersAndFrames := by
  intro s
  refine ⟨fun h => ?_, fun k hk trip => ?_⟩
  · have quiet : s.cf.config = none ∨ s.se.tripInput = false ∨ s.se.tripRepeat < 3 := by
      obtain ⟨h, -⟩ | ⟨-, h⟩ := h
      · exact .inl h
      · exact .inr h
    obtain ⟨-, input, -⟩ := announced_trip s
    obtain ⟨slotA, slotC, slotH⟩ := offeredLine_slots s.li (announcement s) (curtailment s)
    have shape := announced_shape s
    have mus := announced_mu s
    have stands : (announced s).se.state = (computed s).se.state := by rw [announced_se]
    refine ⟨_, exec_round_steady quiet, ?_, input, rfl, ?_, fun low free => ?_, fun high => ?_, ?_, fun barred => ?_,
      offeredLine_eq _ _ _, fun j old replaced sending => ?_, fun none => offeredLine_other _ _ _ none, fun inactive => ?_,
      fun configured free k hk C qA qB cA cB hC hqA hqB hA hB => ?_⟩
    · exact congrArg (fun u : State => { u with
        li := offeredLine s.li (announcement s) (curtailment s)
        se := { (announced s).se with
          tripRepeat := s.se.tripRepeat + if s.cf.config.isSome = true ∧ s.se.tripInput = true then 1 else 0 } }) shape
    · exact mus
    · have sent : curtailment s = some (parkFrame .curtail s.ownStation [BitVec.ofNat 8 s.se.origin]) := if_pos ⟨low, free⟩
      rw [slotC, sent]; rfl
    · have unsent : curtailment s = none := if_neg fun g => absurd g.1 (by omega)
      rw [slotC, unsent]; rfl
    · exact slotH
    · have unsent : curtailment s = none := if_neg fun g => g.2 barred
      have unbuilt : announcement s = none := if_neg fun g => not_barred_of_active g (stands ▸ (announced_barred s).2 barred)
      dsimp only
      rw [unsent, unbuilt]; rfl
    · have built := announcement_isSome s
      dsimp only
      rw [offeredLine_sending _ _ _ sending, built, decide_eq_decide.2 (and_congr_right fun _ => curtailment_isSome s)]
    · have idle : (computed s).se.state.active = false := inactive_of (stands ▸ inactive)
      have unbuilt : announcement s = none := if_neg (by rw [idle]; decide)
      have built : (announced s).se.frameBuilt = false := by rw [← announcement_isSome, unbuilt]; rfl
      refine ⟨built, by rw [slotA, unbuilt]; rfl, ?_, fun x => ?_⟩
      · show (announced s).stageTx = _
        rw [announced_stageTx, inactive_split idle]; simp
      · show ((announced s).outlet x).sp = _ ∧ ((announced s).outlet x).sc = _
        rw [announced_sp, announced_sc, inactive_split idle, computed_outlet]
        exact ⟨rfl, rfl⟩
    · have active : (computed s).se.state.active = true := by
        rw [← stands]
        dsimp only at configured free
        cases hs : (announced s).se.state with
        | unconfigured => exact absurd hs configured
        | barred => exact absurd hs free
        | _ => rfl
      have ceiling : C = (computed s).se.ceiling  := hC.trans (announced_ceiling s)
      have demand : ∀ x, (computed s).outletDemand x = s.outletDemand x := fun x => by
        unfold State.outletDemand; rw [computed_outlet, fitted_of_cf (computed_frame s).1]
      have parts : splitCeiling (computed s).se.ceiling ((computed s).outletDemand .a) ((computed s).outletDemand .b) = (cA, cB) := by
        rw [demand, demand, ← ceiling, ← hqA, ← hqB]; exact splitCeiling_eq hA hB
      have shares : (computed s).roundSplit = ((computed s).giveCeiling .a cA).giveCeiling .b cB := by
        unfold State.roundSplit; rw [if_pos active, parts]
      have split : Split (computed s) (computed s).roundSplit cA cB := by rw [shares]; exact giveBoth_split _ _ _
      obtain ⟨orderA, orderB⟩ := roundSplit_ordered active
      rw [parts] at orderA orderB
      rw [← announced_sp] at orderA orderB
      obtain ⟨bound, -, -⟩ := splitCeiling_bounds (computed s).se.ceiling ((computed s).outletDemand .a) ((computed s).outletDemand .b)
      rw [parts, ← ceiling] at bound
      obtain ⟨portA, portB, stageTx, marks⟩ := split
      obtain ⟨-, -, -, outA, outB, -, stage, -⟩ := computed_frame s
      rw [outA] at portA stageTx
      rw [outB] at portB stageTx
      rw [stage] at stageTx
      have engine := announced_se s
      rw [hk, active] at engine
      refine ⟨orderA, orderB, bound, (announced_sp s .a).trans portA, (announced_sp s .b).trans portB,
        (announced_stageTx s).trans stageTx, fun x => ?_, ?_, ?_, ?_⟩
      · have sc := (announced_sc s x).trans (marks x)
        rw [computed_outlet] at sc
        cases x with
        | a => exact sc
        | b => exact sc
      · dsimp only; rw [engine]; rfl
      · dsimp only; rw [engine]; rfl
      · rw [slotA, announcement_eq hk active, hC, hqA, hqB]
        rfl
  · have law := law_keptByOperations.exec .round (exec_round_released s)
    have outcome := exec_round_released s
    obtain ⟨acf, apv, -⟩ := announced_frame s
    obtain ⟨-, input, count⟩ := announced_trip s
    have config : (announced s).cf.config = some k := by rw [acf]; exact hk
    have barred := announced_barred s
    obtain ⟨cf, pv, se, -⟩ := originated_frame (announced s)
    rw [← se] at input count barred
    refine ⟨_, released (originated (announced s)), exec_round s, outcome, fun low => ?_, fun high => ?_⟩
    · rw [roundOriginate_counts config (by rw [← se, input]; exact trip) (by rw [← se, count]; exact low), ← se, count, ← trip, ← input]
      rfl
    · rw [roundOriginate_repeats config (by rw [← se, input]; exact trip) (by rw [← se, count]; exact high)]
      generalize originated (announced s) = w at *
      have number : w.ownStation = s.ownStation := by rw [State.ownStation, cf, acf]; rfl
      have hold : w.pv.hold = s.pv.hold := by rw [pv, apv]
      have timer : w.pv.holdTimer = s.pv.holdTimer := by rw [pv, apv]
      obtain ⟨hpv, hli, hse, goesOn, begins⟩ := originateHalt_originated w k.tripSeconds 1
      have result : w.tripBegins k = { w.originateHalt k.tripSeconds 1 with
        se := { (w.originateHalt k.tripSeconds 1).se with tripRepeat := 0 } } := rfl
      rw [result]
      generalize w.originateHalt k.tripSeconds 1 = t at *
      rw [hold] at hse goesOn begins
      have view : t.pv = { w.pv with
          haltRecord := some { source := s.ownStation, reason := 1 }, hold := max s.pv.hold k.tripSeconds
          holdTimer := s.pv.holdTimer || decide (s.pv.hold ≤ k.tripSeconds) } := by
        rw [hpv, heldView, hold, timer, number]
      have line : if s.se.state = .barred then t.li = w.li
          else Placed w.li t.li .halt (parkFrame .halt s.ownStation [BitVec.ofNat 8 k.tripSeconds, 1]) := by
        rw [number] at hli
        split
        · next h => rwa [if_pos (barred.2 h)] at hli
        · next h => rwa [if_neg fun g => h (barred.1 g)] at hli
      have engine : ({ t.se with tripRepeat := 0 } : ShareEngine) = { w.se with
          tripRepeat := 0, ceiling := if s.pv.hold = 0 then 0 else w.se.ceiling, claim := if s.pv.hold = 0 then 0 else w.se.claim } := by
        rw [hse]
      have asserted : ({ t.se with tripRepeat := 0 } : ShareEngine) = { (released w).se with
          tripInput := true, tripRepeat := 0, ceiling := if s.pv.hold = 0 then 0 else w.se.ceiling
          claim := if s.pv.hold = 0 then 0 else w.se.claim } := by
        rw [engine, ← trip, ← input]; rfl
      refine ⟨?_, view, line, asserted, fun hold => ?_, fun hold => ?_⟩
      · by_cases hold : s.pv.hold = 0
        · exact congrArg (fun u : State => { u with se := { t.se with tripRepeat := 0 } }) (begins hold).1
        · have shape := goesOn (by omega)
          generalize t.pv = v, t.li = l at shape
          rw [shape]
          rfl
      · exact congrArg (fun u : State => { u with se := { t.se with tripRepeat := 0 } }) (goesOn hold)
      · obtain ⟨-, pending, ordered, suspends⟩ := begins hold
        refine ⟨pending, ordered, fun lawS => ?_⟩
        have lawReleased : Law (released w) := law (law_sameOutlets ((outletLaw_iff s).1 lawS))
        exact suspends ((outletLaw_iff w).2 (law_sameOutlets lawReleased))

end

end Sys2Proof.Proofs.RoundFrames
end

section
/-! The pedestal link byte by byte (R180 to R183, R192): frames complete and bad, commands that wait, the response buffer, and what the
link brings while a response is being sent. -/

namespace Sys2Proof.Proofs.LinkEvents

open Machine PedestalLink SettlementQueue CommandRows

section
variable {s t : State}

/-! ## What cannot be taken at once (R181, R182) -/

theorem offerCommand_wait (h : s.linkBlocked = true ∨ s.pk.response ≠ .empty) (code : Byte) (data : List Byte) :
    s.offerCommand code data = s.letWait (.command code data) := by
  unfold State.offerCommand
  rw [if_neg]
  rintro ⟨free, empty⟩
  obtain h | h := h
  · rw [free] at h; cases h
  · exact h (of_decide_eq_true empty)

theorem offerBadFrame_wait (h : s.linkBlocked = true ∨ s.pk.response ≠ .empty) (code : Byte) :
    s.offerBadFrame code = s.letWait (.badFrame code) := by
  unfold State.offerBadFrame
  rw [if_neg]
  rintro ⟨free, empty⟩
  obtain h | h := h
  · rw [free] at h; cases h
  · exact h (of_decide_eq_true empty)

theorem offerBadFrame_eq (s : State) (code : Byte) : s.offerBadFrame code =
    if s.linkBlocked = true then s.raise .linkOverrun
    else if s.pk.response = .empty then s.answered code 0x01 []
    else { s with pk := { s.pk with command := .badFrame code } } := by
  obtain ⟨full, free⟩ := s.letWait_spec (.badFrame code)
  by_cases h : s.linkBlocked = true
  · rw [if_pos h, offerBadFrame_wait (.inl h), full h]
  · rw [if_neg h]
    by_cases empty : s.pk.response = .empty
    · rw [if_pos empty]
      unfold State.offerBadFrame
      rw [if_pos ⟨Bool.eq_false_iff.2 h, decide_eq_true empty⟩]
      rfl
    · rw [if_neg empty, offerBadFrame_wait (.inr empty), free (Bool.eq_false_iff.2 h)]

theorem raise_linkOverrun (s : State) : s.raise .linkOverrun = { s with pk := { s.pk with edge := s.pk.edge ||| 0x100 } } := rfl

/-- Settles O29: a command on a busy link waits or is discarded unseen, and an undefined code is answered UNKNOWN_COMMAND. -/
theorem commandsWaitOrAreDiscarded : Obligations.CommandsWaitOrAreDiscarded := by
  intro s c code data hc
  rw [exec_commandFrame hc]
  obtain ⟨full, free⟩ := s.letWait_spec (.command code data)
  refine ⟨fun blocked => ?_, fun empty sending => ?_, fun hfree undefined => ?_⟩
  · have blocked := (linkBlocked_iff s).2 blocked
    rw [offerCommand_wait (.inl blocked), full blocked, raise_linkOverrun]
  · obtain ⟨r, hr⟩ := sending
    have notBlocked : s.linkBlocked = false := by simp [State.linkBlocked, empty, hr]
    rw [offerCommand_wait (.inr (by rw [hr]; simp)), free notBlocked]
  · rw [offerCommand_of_linkFree hfree, takeCommand_undefined undefined]

/-! ## The receiver byte by byte (R180) -/

section
variable {b : Byte}

theorem exec_byte (s : State) (b : Byte) : exec (.linkByteReceived b) s = .next (s.receiveByte b) := rfl

theorem receiveByte_body {length : Byte} {kept : List Byte} (h : s.pk.receiver = .body length kept)
    (short : kept.length + 1 < length.toNat + 2) : s.receiveByte b = s.receiverTo (.body length (kept ++ [b])) := by
  refine receiveByte_nothing ?_
  rw [h]
  exact if_neg (by rw [List.length_append]; simp; omega)

theorem afterByte_complete {length : Byte} {kept : List Byte} (h : s.pk.receiver = .body length kept)
    (full : kept.length + 1 = length.toNat + 2) : s.pk.receiver.afterByte b = (.hunt, frameOutcome length (kept ++ [b])) := by
  rw [h]
  exact if_pos (by rw [List.length_append]; simp; omega)

theorem badLength_iff (b : Byte) : badLength b = true ↔ b.toNat = 0 ∨ 96 < b.toNat := decide_eq_true_iff

theorem receiveByte_badLength (h : s.pk.receiver = .length) (bad : badLength b = true) :
    s.receiveByte b = (s.receiverTo .skip).offerBadFrame 0 := by
  refine receiveByte_badFrame ?_
  rw [h]
  exact if_pos bad

theorem exec_linkBadLength_length (h : s.pk.receiver = .length) (bad : b.toNat = 0 ∨ 96 < b.toNat) :
    exec (.linkBadLength b) s = .next (s.receiveByte b) := if_pos ⟨h, (badLength_iff b).2 bad⟩

theorem exec_linkBadLength_elsewhere (h : s.pk.receiver ≠ .length) : exec (.linkBadLength b) s = .next s := if_neg fun g => h g.1

theorem exec_commandFrameComplete {length : Byte} {kept : List Byte} (h : s.pk.receiver = .body length kept)
    (full : kept.length = length.toNat + 1) : exec (.commandFrameComplete b) s = .next (s.receiveByte b) := by
  show execCommandFrameComplete b s = _
  unfold execCommandFrameComplete
  rw [h]
  exact if_pos full

end

theorem receiverTo_of {u : Receiver → State} (hu : ∀ r, u r = { s with pk := { s.pk with receiver := r, gapTimer := true } }) (r : Receiver) :
    s.receiverTo r = u r := (hu r).symm

/-- Settles O26: the receiver of the pedestal link, byte by byte. -/
theorem receiverByteByByte : Obligations.ReceiverByteByByte := by
  intro s b u hu
  have goes := receiverTo_of hu
  refine ⟨fun h => ?_, fun h => ?_, fun h low high => ?_, fun length kept h short => ?_, fun h bad => ?_, fun length kept h full => ?_, ?_, rfl⟩
  · rw [exec_byte, receiveByte_nothing (r := if b = 0x7E then .length else .hunt) (by rw [h]; rfl)]
    split
    · exact congrArg _ (goes _)
    · exact congrArg _ (goes _)
  · rw [exec_byte, receiveByte_nothing (r := .skip) (by rw [h]; rfl), goes]
  · have good : ¬ badLength b = true := fun g => by have := (badLength_iff b).1 g; omega
    rw [exec_byte, receiveByte_nothing (r := .body b []) (by rw [h]; exact if_neg good), goes]
  · rw [exec_byte, receiveByte_body h short, goes]
  · rw [exec_byte, exec_linkBadLength_length h bad]
  · rw [exec_byte, exec_commandFrameComplete h (by omega)]
  · show Host.Outcome.next (s.receiverTo s.pk.receiver.afterStopBitError) = _
    cases hr : s.pk.receiver with
    | hunt => rw [if_pos rfl]; exact congrArg _ (goes _)
    | _ => rw [if_neg (by simp)]; exact congrArg _ (goes _)

/-- The bytes kept up to the last one are a code, its data and their check. -/
theorem frame_parts {length : Byte} {now : List Byte} (full : now.length = length.toNat + 2) (above : 1 ≤ length.toNat) :
    ∃ code data check, now = code :: data ++ check ∧ check.length = 2 ∧ frameOutcome length now =
      if checkBytes (length :: code :: data) = check then .command code data else .badFrame code := by
  obtain ⟨code, data, covered⟩ : ∃ code data, now.take length.toNat = code :: data := by
    cases h : now.take length.toNat with
    | nil =>
      have := congrArg List.length h
      rw [List.length_take, List.length_nil] at this
      omega
    | cons code data => exact ⟨code, data, rfl⟩
  refine ⟨code, data, now.drop length.toNat, ?_, by rw [List.length_drop]; omega, ?_⟩
  · rw [← covered, List.take_append_drop]
  · unfold frameOutcome
    rw [covered]
    rfl

/-- Settles O27: what the byte that completes a command frame, and a bad length byte, do. -/
theorem frameOnTheLink : Obligations.FrameOnTheLink := by
  intro s last length kept u hu
  have goes := receiverTo_of hu
  have blockedAt : ∀ r, (u r).linkBlocked = s.linkBlocked := fun r => by rw [hu]; rfl
  refine ⟨linkBlocked_iff s, exec_linkBadLength_elsewhere, fun h bad => ?_, fun h full above => ?_⟩
  · rw [exec_linkBadLength_length h bad, receiveByte_badLength h ((badLength_iff length).2 bad), goes, offerBadFrame_eq, blockedAt, hu]
  · obtain ⟨code, data, check, parts, two, outcome⟩ := frame_parts (now := kept ++ [last]) (length := length) (by simp; omega) above
    have complete := afterByte_complete (b := last) h (by omega)
    rw [outcome] at complete
    rw [exec_commandFrameComplete h full]
    refine ⟨code, data, check, parts, two, fun blocked => ?_, fun free bad => ?_, fun free good c hc => ?_⟩
    · have blockedHunt : (u .hunt).linkBlocked = true := (blockedAt _).trans blocked
      by_cases good : checkBytes (length :: code :: data) = check
      · rw [if_pos good] at complete
        rw [receiveByte_command complete, goes, offerCommand_wait (.inl blockedHunt), ((u .hunt).letWait_spec _).1 blockedHunt]
      · rw [if_neg good] at complete
        rw [receiveByte_badFrame complete, goes, offerBadFrame_eq, if_pos blockedHunt]
    · rw [if_neg (Ne.symm bad)] at complete
      rw [receiveByte_badFrame complete, goes, offerBadFrame_eq, if_neg (by rw [blockedAt, free]; decide), hu]
    · rw [if_pos good.symm] at complete
      exact ⟨_, exec_commandFrame hc _, by rw [receiveByte_command complete, goes]⟩

/-! ## A frame received byte by byte (R179) -/

theorem afterBytes_cons (s : State) (b : Byte) (rest : List Byte) : s.afterBytes (b :: rest) = (s.receiveByte b).afterBytes rest := rfl

theorem afterBytes_append (s : State) (front rest : List Byte) : s.afterBytes (front ++ rest) = (s.afterBytes front).afterBytes rest :=
  List.foldl_append

/-- The bytes of a body before the last one are kept. -/
theorem afterBytes_body {length : Byte} (bytes kept : List Byte) (h : kept.length + bytes.length < length.toNat + 2) (s : State) :
    (s.receiverTo (.body length kept)).afterBytes bytes = s.receiverTo (.body length (kept ++ bytes)) := by
  induction bytes generalizing kept s with
  | nil => simp [State.afterBytes]
  | cons b rest ih =>
    rw [List.length_cons] at h
    rw [afterBytes_cons, receiveByte_body (s := s.receiverTo (.body length kept)) rfl (by omega)]
    have next := ih (kept ++ [b]) (by rw [List.length_append]; simp; omega) s
    rw [List.append_assoc] at next
    exact next

/-- Settles O28: the bytes of a command's frame, received one by one, do exactly what the command row does. -/
theorem frameBytesAreTheCommand : Obligations.FrameBytesAreTheCommand := by
  intro s c code data hc short hunting
  have value : (BitVec.ofNat 8 (data.length + 1)).toNat = data.length + 1 := by rw [BitVec.toNat_ofNat]; omega
  generalize hl : BitVec.ofNat 8 (data.length + 1) = length at *
  generalize hk : checkBytes (length :: code :: data) = check
  have two : check.length = 2 := by rw [← hk]; exact length_checkBytes _
  obtain ⟨front, last, split⟩ : ∃ front last, code :: data ++ check = front ++ [last] :=
    ⟨_, _, (List.dropLast_append_getLast (by simp)).symm⟩
  have count : front.length = length.toNat + 1 := by
    have := congrArg List.length split
    simp only [List.length_append, List.length_cons, List.length_nil] at this
    omega
  have header : s.afterBytes [0x7E, length] = s.receiverTo (.body length []) := by
    rw [afterBytes_cons, receiveByte_nothing (r := .length) (by rw [hunting]; rfl), afterBytes_cons,
      receiveByte_nothing (s := s.receiverTo .length) (r := .body length []) (if_neg fun bad => ?_)]
    · rfl
    · have := (badLength_iff length).1 bad; omega
  have bytes : (0x7E : Byte) :: length :: code :: data ++ check = [0x7E, length] ++ (front ++ [last]) := by rw [← split]; rfl
  have body : (s.receiverTo (.body length [])).afterBytes front = s.receiverTo (.body length front) :=
    afterBytes_body front [] (by simp; omega) s
  have complete : (s.receiverTo (.body length front)).pk.receiver.afterByte last = (.hunt, .command code data) := by
    rw [afterByte_complete (s := s.receiverTo (.body length front)) rfl (by omega), ← split]
    have covered : (code :: data ++ check).take length.toNat = code :: data := List.take_left' (by simp; omega)
    have rest : (code :: data ++ check).drop length.toNat = check := List.drop_left' (by simp; omega)
    unfold frameOutcome
    rw [covered, rest]
    exact congrArg (Prod.mk Receiver.hunt) (if_pos hk)
  have row := exec_commandFrame hc { s with pk := { s.pk with gapTimer := true } }
  have hunt : ((s.receiverTo (.body length front)).receiverTo .hunt) = { s with pk := { s.pk with gapTimer := true } } := by
    unfold State.receiverTo
    rw [← hunting]
  rw [bytes, afterBytes_append, afterBytes_append, header, body, afterBytes_cons, receiveByte_command complete, hunt, row]
  rfl

/-! ## The response buffer (R183) -/

/-- Settles O30: HOLD holds back a response, and its last byte lets in what waits. -/
theorem responseBufferEvents : Obligations.ResponseBufferEvents := by
  intro s
  refine ⟨rfl, fun r held => ⟨?_, ?_⟩, fun none => ?_, fun empty => ?_, fun r u sending hu => ?_⟩
  · show execHoldReleased s = _
    unfold execHoldReleased; rw [held]
  · show execResponseSent s = _
    unfold execResponseSent; rw [held]
  · show execHoldReleased s = _
    unfold execHoldReleased
    cases hr : s.pk.response with
    | held r => exact absurd hr (none r)
    | sending r => rfl
    | empty => rfl
  · show execResponseSent s = _
    unfold execResponseSent; rw [empty]
  · have sent : exec .responseSent s = .next s.takeWaiting := by
      show execResponseSent s = _
      unfold execResponseSent; rw [sending]
    rw [sent]
    unfold State.takeWaiting
    refine ⟨fun hc => ?_, fun code hc => ?_, fun c code data hc row => ?_⟩
    · rw [hc, hu]
    · rw [hc, hu]; rfl
    · have free : u.linkFree := by rw [hu]; exact ⟨rfl, rfl⟩
      rw [hc, exec_commandFrame row, offerCommand_of_linkFree free, hu]

end

end Sys2Proof.Proofs.LinkEvents
end

section
/-! The queue of commands, the hard reset and the clock (R193, R197, R199). -/

namespace Sys2Proof.Proofs.StartAndClock

open Machine

section
variable {s t : State} {x : Outlet}

/-- Settles O1: on a queue with a front, a step is the execution of its command. -/
theorem stepTakesTheFirstCommand : Obligations.StepTakesTheFirstCommand := fun _ _ _ => rfl

/-- R106, R113: a fitted outlet's records, with the pulse input read under PULSE only. -/
theorem sampled_eq (source estop feedback plug pulse : Bool) :
    OutletRecord.sampled (if source = true then .pulse else .sample) estop feedback plug pulse =
      { sp := StageOutlet.sampled feedback plug
        mu := { MeterOutlet.afterReset with pulseAsserted := source && pulse }
        sc := SessionOutlet.afterReset (if feedback || estop then .outOfService else .vacant) } := by
  cases source <;> rfl

/-- Settles O2: the reset state is written out by the model, and only the second outlet's strap splits it. -/
theorem hardResetValues : Obligations.HardResetValues := by
  intro pins levels s
  refine ⟨_, rfl, rfl, rfl, rfl, rfl, rfl, fun k => by cases k <;> rfl, rfl, rfl, rfl, rfl,
    congrArg OutletRecord.mu (sampled_eq pins.source _ _ _ _), rfl, fun fitted => ?_, fun absent => ?_, rfl, rfl, rfl, rfl, rfl, rfl⟩
  · have hB : (if (Straps.ofPins pins).twoOutlets = true then
        OutletRecord.sampled (Straps.ofPins pins).source levels.emergencyStop levels.feedbackB levels.plugB levels.pulseB
        else OutletRecord.absent) = _ := (if_pos fitted).trans (sampled_eq pins.source _ _ _ _)
    exact ⟨congrArg OutletRecord.sp hB, congrArg OutletRecord.mu hB, congrArg OutletRecord.sc hB, if_pos fitted⟩
  · have off : ¬ (Straps.ofPins pins).twoOutlets = true := by
      show ¬ pins.outlets = true
      rw [absent]; decide
    have hB : (if (Straps.ofPins pins).twoOutlets = true then
        OutletRecord.sampled (Straps.ofPins pins).source levels.emergencyStop levels.feedbackB levels.plugB levels.pulseB
        else OutletRecord.absent) = OutletRecord.absent := if_neg off
    exact ⟨congrArg (fun o : OutletRecord => o.sp.ordered) hB, congrArg (fun o : OutletRecord => o.sp.confirmed) hB,
      congrArg (fun o : OutletRecord => o.sp.driveClosed) hB, congrArg OutletRecord.sc hB, if_neg off⟩

/-- The reset state has no session, no active bank and no record queued. -/
theorem reset_queueLaw : State.reset.QueueLaw :=
  ⟨rfl, by decide, rfl, rfl, fun _ h => (Option.not_mem_none _ h).elim, fun _ h => (List.not_mem_nil h).elim,
    fun x _ => by cases x <;> rfl⟩

/-- Settles O3: the laws of the outlets, the ranges and the share are finite checks of the reset state, and every table of the view
and the bill is empty. -/
theorem resetObeysTheLaws : Obligations.ResetObeysTheLaws := by
  refine ⟨⟨by decide, by decide, by decide, by decide, by decide⟩, by decide, by decide, ?_, reset_queueLaw, fun _ h => (Option.not_mem_none _ h).elim, fun _ h => (Option.not_mem_none _ h).elim,
    fun _ h => (List.not_mem_nil h).elim, fun _ h => (List.not_mem_nil h).elim⟩
  exact ⟨.nil, fun _ h => (List.not_mem_nil h).elim, .nil, fun _ h => (List.not_mem_nil h).elim, by decide, rfl, by decide, by decide,
    fun _ h => (Option.not_mem_none _ h).elim⟩

/-- Settles O4: a tick short of midnight, and the tick at midnight. -/
theorem clockTick : Obligations.ClockTick := by
  intro s hsecond hday
  show execClockTick s = _
  unfold execClockTick
  by_cases midnight : s.cf.second = 86399
  · rw [if_neg (show ¬ s.cf.second + 1 < Config.daySeconds by rw [midnight]; decide), if_pos midnight, midnight]
  · have before : s.cf.second + 1 < 86400 := by omega
    rw [if_pos (show s.cf.second + 1 < Config.daySeconds from before), if_neg midnight, Nat.mod_eq_of_lt before]

end

end Sys2Proof.Proofs.StartAndClock
end

section
/-! The commands of the session controller, the clock and the curtail origin on a free link: SET_CLOCK (R198), OPEN_SESSION (R127, R128),
DEMAND (R133), STOP_SESSION (R136) and SET_CURTAIL (R80). -/

namespace Sys2Proof.Proofs.SessionCommands

open Machine OutletOperations PedestalLink SettlementQueue CommandRows Stopping OutletLaws StopAndRestart PlugEvents OutletLawSteps
open ReceivedFrames StationWork

section
variable {s t : State} {x : Outlet} {data : List Byte}

/-! ## The outlet byte -/

theorem outletOf_byte (x : Outlet) (rest : List Byte) : outletOf (field (x.byte :: rest) 0 1) = some x := by
  rw [field_byte]; cases x <;> rfl

theorem outletOf_above {n : Nat} (h : 1 < n) : outletOf n = none := by
  obtain ⟨m, rfl⟩ := Nat.exists_eq_add_of_le h
  rw [show Nat.succ 1 + m = m + 2 by omega]
  rfl

/-- Data that names an outlet is refused for its length alone. -/
theorem length_bad {n : Nat} (bad : data.length ≠ n ∨ 1 < (data.headD 0).toNat) (named : outletOf (field data 0 1) = some x) :
    data.length ≠ n :=
  bad.resolve_right fun above => by
    rw [headD_field, outletOf_above above] at named
    cases named

/-! ## SET_CLOCK (R163, R198) -/

theorem setClockCommand_refused (h : data.length ≠ 5 ∨ 86400 ≤ field data 2 3) : setClockCommand data s = s.refuse .badArgument := if_pos h

theorem setClockCommand_accepted (hlength : data.length = 5) (h : field data 2 3 < 86400) : setClockCommand data s =
    State.accept ((({ s with cf := { s.cf with day := field data 0 2, second := field data 2 3, clockSet := true } } : State).stepClock .a).stepClock .b) :=
  if_neg fun bad : data.length ≠ 5 ∨ 86400 ≤ field data 2 3 => bad.elim (fun g => g hlength) fun g => by omega

/-- Settles O33: the refusals, and the acceptance that marks both outlets' sessions. -/
theorem setClock : Obligations.SetClock := by
  intro s hfree
  refine ⟨fun data h => ?_, fun day second hday hsecond => ?_⟩
  · rw [exec_row (c := .setClock) hfree rfl]
    exact congrArg (fun r => Host.Outcome.next (answeredBy .setClock r)) (setClockCommand_refused (.inl h))
  · have first : field (bytesOf 2 day ++ bytesOf 3 second) 0 2 = day := field_front hday _
    have rest : field (bytesOf 2 day ++ bytesOf 3 second) 2 3 = second :=
      (field_behind (length_bytesOf 2 day) (bytesOf 3 second) 0 3).trans (field_bytesOf hsecond)
    have hlength : (bytesOf 2 day ++ bytesOf 3 second).length = 5 := by simp
    rw [exec_row (c := .setClock) (data := bytesOf 2 day ++ bytesOf 3 second) hfree rfl]
    show Host.Outcome.next (answeredBy .setClock (setClockCommand _ s)) = _
    by_cases late : 86400 ≤ second
    · rw [if_pos late, setClockCommand_refused (.inr (by rw [rest]; exact late))]
      rfl
    · rw [if_neg late, setClockCommand_accepted hlength (by rw [rest]; omega), first, rest]
      rfl

/-! ## DEMAND (R133) -/

theorem demandCommand_refused (bad : data.length ≠ 3 ∨ 1 < (data.headD 0).toNat) : demandCommand data s = s.refuse .badArgument := by
  unfold demandCommand
  cases named : outletOf (field data 0 1) with
  | none => rfl
  | some x => exact if_pos (length_bad bad named)

theorem demandCommand_named (named : outletOf (field data 0 1) = some x) (h : data.length = 3) : demandCommand data s =
    if s.fitted x = false then s.refuse .outletAbsent
    else if (s.outlet x).sc.state.running = true then
      (s.modSc x fun c => { c with requested := min (field data 1 2) (s.rating x) }).accept
    else s.refuse .state := by
  unfold demandCommand
  rw [named]
  exact if_neg fun g => g h

theorem running_iff (o : OutletState) : o.running = true ↔ o = .connecting ∨ o = .energising ∨ o = .suspended := by
  cases o <;> simp [OutletState.running]

theorem rating_configured {k : Configuration} (hk : s.cf.config = some k) : s.rating x = k.rating x := by
  rw [State.rating, hk]; rfl

/-- Settles O38: the refusals, and the request limited to the outlet's rating. -/
theorem demand : Obligations.Demand := by
  intro s data hfree
  have row : exec (.demand data) s = .next (answeredBy .demand (demandCommand data s)) := exec_row hfree rfl
  rw [row]
  refine ⟨fun bad => by rw [demandCommand_refused bad]; rfl, fun x power hpower hdata => ?_⟩
  subst hdata
  have power_field : field (x.byte :: bytesOf 2 power) 1 2 = power := field_bytesOf hpower
  rw [demandCommand_named (outletOf_byte x _) (by simp), power_field]
  split
  · next absent => rfl
  · next fitted =>
    split
    · next running =>
      intro k hk
      rw [if_pos ((running_iff _).2 running), rating_configured hk]
      cases x <;> rfl
    · next stopped => rw [if_neg fun g => stopped ((running_iff _).1 g)]; rfl

/-! ## STOP_SESSION (R136) -/

theorem stopSessionCommand_refused (bad : data.length ≠ 2 ∨ 1 < (data.headD 0).toNat) :
    stopSessionCommand data s = s.refuse .badArgument := by
  unfold stopSessionCommand
  cases named : outletOf (field data 0 1) with
  | none => rfl
  | some x => exact if_pos (.inl (length_bad bad named))

theorem stopSessionCommand_named (x : Outlet) (reason : Byte) : stopSessionCommand [x.byte, reason] s =
    if 127 < reason.toNat then s.refuse .badArgument
    else if s.fitted x = false then s.refuse .outletAbsent
    else s.stopSessionAt x reason.toNat := by
  have second : field [x.byte, reason] 1 1 = reason.toNat := field_byte reason []
  unfold stopSessionCommand
  rw [outletOf_byte]
  dsimp only
  rw [second]
  simp

theorem stopSessionAt_other (await : (s.outlet x).sc.state ≠ .awaitPlug) (h : (s.outlet x).sc.state.running = false) (reason : Nat) :
    s.stopSessionAt x reason = s.refuse .state := by
  unfold State.stopSessionAt
  cases hs : (s.outlet x).sc.state <;> rw [hs] at await h <;> first | rfl | exact absurd rfl await | cases h

theorem stopSessionAt_await (h : (s.outlet x).sc.state = .awaitPlug) (reason : Nat) :
    s.stopSessionAt x reason = (s.endAndSettle x reason).accept := by
  unfold State.stopSessionAt; rw [h]

theorem stopSessionAt_running (h : (s.outlet x).sc.state.running = true) (reason : Nat) :
    s.stopSessionAt x reason = (s.ordinaryStop x reason).accept := by
  unfold State.stopSessionAt
  cases hs : (s.outlet x).sc.state <;> rw [hs] at h <;> first | rfl | cases h

/-- Settles O39: the refusals, and the stop by the outlet state. -/
theorem stopSession : Obligations.StopSession := by
  intro s data hfree law
  have laws := (outletLaw_iff s).1 law
  have row : exec (.stopSession data) s = .next (answeredBy .stopSession (stopSessionCommand data s)) := exec_row hfree rfl
  rw [row]
  refine ⟨fun bad => by rw [stopSessionCommand_refused bad]; rfl, fun x reason hdata => ?_⟩
  subst hdata
  rw [stopSessionCommand_named]
  refine ⟨fun above => by rw [if_pos above]; rfl, fun within => ?_⟩
  rw [if_neg (by omega)]
  refine ⟨fun absent => by rw [if_pos absent]; rfl, fun fitted await stopped => ?_, fun r fitted hr => ?_⟩
  · rw [if_neg (by rw [fitted]; decide), stopSessionAt_other await stopped]; rfl
  · rw [if_neg (by rw [fitted]; decide)]
    refine ⟨fun hs => ?_, fun running => ?_⟩
    · rw [stopSessionAt_await hs]
      have released := (laws.inUse (by rw [hs]; decide : (s.outlet x).sc.state ≠ .outOfService)).1
      exact ⟨_, rfl, (endAndSettle_work s x _).onlyOutlet,
        endAndSettle_settledAs _ hr (by rw [released]; rfl) (by rw [hs]; decide), State.endAndSettle_sp _ _ _ _⟩
    · rw [stopSessionAt_running running]
      exact ⟨_, rfl, (ordinaryStop_spec _ (laws.inSession hr (.inl running)) (not_closing_of_running running)).1⟩

/-! ## SET_CURTAIL (R80, R81) -/

theorem setCurtailCommand_refused (bad : data.length ≠ 1 ∨ 100 < (data.headD 0).toNat) :
    setCurtailCommand data s = s.refuse .badArgument := if_pos (bad.imp_right fun h => by rw [headD_field]; exact h)

theorem setCurtailCommand_level {level : Byte} (h : level.toNat ≤ 100) : setCurtailCommand [level] s =
    if s.isConfigured = false then s.refuse .notConfigured
    else if level.toNat = 100 ∧ s.se.origin = 100 then s.accept
    else (s.setOrigin level.toNat).accept := by
  unfold setCurtailCommand
  dsimp only
  rw [field_byte, if_neg (by simp; omega)]

/-- The state with the origin, its own entry and its cause, before the frame is placed. -/
def originSet (s : State) (level : Nat) : State :=
  ({ s with se := { s.se with origin := level } } : State).setView (s.pv.setOwn level)

theorem originSet_eq (s : State) (level : Nat) : originSet s level =
    { s with se := { s.se with origin := level }, pv := s.pv.setOwn level
             pk := { s.pk with edge := if (s.pv.setOwn level).level = s.pv.level then s.pk.edge else s.pk.edge ||| 0x10 } } :=
  setView_eq _ _

theorem setOrigin_eq (s : State) (level : Nat) : s.setOrigin level =
    { originSet s level with li := (s.placeFrame .curtail (parkFrame .curtail s.ownStation [BitVec.ofNat 8 level])).li } := by
  show (originSet s level).placeCurtail level = _
  rw [originSet_eq]
  unfold State.placeCurtail State.placeFrame
  dsimp only
  split <;> rfl

/-- Settles O41: the refusals, the level that changes nothing, and the origin set. -/
theorem setCurtail : Obligations.SetCurtail := by
  intro s data hfree
  have row : exec (.setCurtail data) s = .next (answeredBy .setCurtail (setCurtailCommand data s)) := exec_row hfree rfl
  rw [row]
  refine ⟨fun bad => by rw [setCurtailCommand_refused bad]; rfl, fun level hlevel hdata => ?_⟩
  subst hdata
  rw [setCurtailCommand_level hlevel]
  refine ⟨fun hk => by rw [if_pos (isConfigured_of_none hk)]; rfl, fun hk full origin => ?_, fun hk changes => ?_⟩
  · rw [if_neg (by rw [isConfigured_of_isSome hk]; decide), if_pos ⟨full, origin⟩]; rfl
  · rw [if_neg (by rw [isConfigured_of_isSome hk]; decide), if_neg fun g => changes.elim (fun h => h g.1) fun h => h g.2]
    obtain ⟨barred, free⟩ := s.placeFrame_spec .curtail (parkFrame .curtail s.ownStation [level])
    have shape := setOrigin_eq s level.toNat
    rw [originSet_eq, byte_ofNat_toNat] at shape
    refine ⟨s.setOrigin level.toNat, rfl, by rw [shape], by rw [shape]; rfl, by rw [shape], ?_⟩
    rw [shape]
    dsimp only
    split
    · next h => rw [barred h]
    · next h => exact (free h).1

/-! ## OPEN_SESSION's data and its checks (R127) -/

/-- The data of OPEN_SESSION. -/
def openData (outletByte : Byte) (auth : List Byte) (energyCap costCap : Nat) : List Byte :=
  outletByte :: auth ++ bytesOf 4 energyCap ++ bytesOf 4 costCap

section
variable {outletByte : Byte} {auth : List Byte} {energyCap costCap : Nat}

theorem openData_length (h : auth.length = 8) : (openData outletByte auth energyCap costCap).length = 17 := by
  simp [openData, h]

theorem openData_outlet : field (openData outletByte auth energyCap costCap) 0 1 = outletByte.toNat := field_byte outletByte _

theorem openData_auth (h : auth.length = 8) : ((openData outletByte auth energyCap costCap).drop 1).take 8 = auth := by
  unfold openData
  rw [List.append_assoc, List.cons_append]
  exact List.take_left' h

theorem openData_energyCap (h : auth.length = 8) (hcap : energyCap < 2 ^ 32) :
    field (openData outletByte auth energyCap costCap) 9 4 = energyCap := by
  have front : (outletByte :: auth).length = 9 := by simp [h]
  unfold openData
  rw [List.append_assoc]
  exact (field_behind front _ 0 4).trans (field_front hcap _)

theorem openData_costCap (h : auth.length = 8) (hcap : costCap < 2 ^ 32) :
    field (openData outletByte auth energyCap costCap) 13 4 = costCap := by
  have front : (outletByte :: auth ++ bytesOf 4 energyCap).length = 13 := by simp [h]
  exact (field_behind front _ 0 4).trans (field_bytesOf hcap)

theorem openSessionCommand_length (h : data.length ≠ 17) : openSessionCommand data s = s.refuse .badArgument := by
  unfold openSessionCommand
  cases outletOf (field data 0 1) with
  | none => rfl
  | some x => exact if_pos (.inl h)

theorem openSessionCommand_range (h : auth.length = 8) (hcap : energyCap < 2 ^ 32)
    (bad : 1 < outletByte.toNat ∨ 2000000 < energyCap) :
    openSessionCommand (openData outletByte auth energyCap costCap) s = s.refuse .badArgument := by
  unfold openSessionCommand
  cases named : outletOf (field (openData outletByte auth energyCap costCap) 0 1) with
  | none => rfl
  | some x =>
    refine if_pos (.inr ?_)
    rw [openData_energyCap h hcap]
    refine bad.resolve_left fun above => ?_
    rw [openData_outlet, outletOf_above above] at named
    cases named

theorem openSessionCommand_named (h : auth.length = 8) (hcap : energyCap ≤ 2000000) :
    openSessionCommand (openData x.byte auth energyCap costCap) s = s.openSessionAt x (openData x.byte auth energyCap costCap) := by
  unfold openSessionCommand
  rw [show outletOf (field (openData x.byte auth energyCap costCap) 0 1) = some x from outletOf_byte x _]
  dsimp only
  rw [openData_length h, openData_energyCap h (by omega)]
  exact if_neg fun bad => bad.elim (fun g => g rfl) fun g : 2000000 < energyCap => by omega

end

/-- R127: what stands before the outlet's own check: the configuration, the clock and the outlet. -/
structure Ready (s : State) (x : Outlet) : Prop where
  configured : s.cf.config.isSome = true
  clock : s.cf.clockSet = true
  fitted : s.fitted x = true

theorem openSessionAt_ready (h : Ready s x) (vacant : (s.outlet x).sc.state = .vacant) (free : s.se.state ≠ .barred) {i : BankId}
    (hi : s.ts.active = some i) {b : Tariff} (hb : (s.ts.bank i).tariff = some b) : s.openSessionAt x data =
      if 16 ≤ s.sq.queue.length + s.sq.reserved then s.refuse .queueFull
      else { state := (s.bookSession x (s.newRecord x data i b)).placeSession x, status := .ok
             data := bytesOf 2 s.nextId ++ bytesOf 2 b.id } := by
  unfold State.openSessionAt
  rw [isConfigured_of_isSome h.configured, h.clock, h.fitted, if_neg (by decide), if_neg (by decide), if_neg (by decide),
    if_neg (not_or.2 ⟨not_not_intro vacant, free⟩), hi]
  dsimp only
  rw [hb]

theorem openSessionAt_noTariff (h : Ready s x) (vacant : (s.outlet x).sc.state = .vacant) (free : s.se.state ≠ .barred)
    (none : s.ts.active = none) : s.openSessionAt x data = s.refuse .noTariff := by
  unfold State.openSessionAt
  rw [isConfigured_of_isSome h.configured, h.clock, h.fitted, if_neg (by decide), if_neg (by decide), if_neg (by decide),
    if_neg (not_or.2 ⟨not_not_intro vacant, free⟩), none]

theorem openSessionAt_state (h : Ready s x) (bad : (s.outlet x).sc.state ≠ .vacant ∨ s.se.state = .barred) :
    s.openSessionAt x data = s.refuse .state := by
  unfold State.openSessionAt
  rw [isConfigured_of_isSome h.configured, h.clock, h.fitted, if_neg (by decide), if_neg (by decide), if_neg (by decide), if_pos bad]

/-- Settles O36: each check, behind those before it. -/
theorem openSessionRefused : Obligations.OpenSessionRefused := by
  intro s data hfree
  have row : exec (.openSession data) s = .next (answeredBy .openSession (openSessionCommand data s)) := exec_row hfree rfl
  dsimp only
  rw [row]
  refine ⟨fun h => by rw [openSessionCommand_length h]; rfl, fun outletByte auth energyCap costCap hauth hcap _ hdata => ?_⟩
  have given : data = openData outletByte auth energyCap costCap := hdata
  subst given
  refine ⟨fun bad => by rw [openSessionCommand_range hauth hcap bad]; rfl, fun x named within => ?_⟩
  subst named
  rw [openSessionCommand_named hauth within]
  refine ⟨fun hk => ?_, fun hk hclock => ?_, fun hk hclock absent => ?_, fun hk hclock fitted => ?_⟩
  · rw [State.openSessionAt, if_pos (isConfigured_of_none hk)]; rfl
  · rw [State.openSessionAt, isConfigured_of_isSome hk, if_neg (by decide), if_pos hclock]; rfl
  · rw [State.openSessionAt, isConfigured_of_isSome hk, hclock, if_neg (by decide), if_neg (by decide), if_pos absent]; rfl
  · have ready : Ready s x := ⟨hk, hclock, fitted⟩
    refine ⟨fun bad => by rw [openSessionAt_state ready bad]; rfl, fun vacant free => ⟨fun none => ?_, fun i b hi hb full => ?_⟩⟩
    · rw [openSessionAt_noTariff ready vacant free none]; rfl
    · rw [openSessionAt_ready ready vacant free hi hb, if_pos full]; rfl

/-! ## OPEN_SESSION accepted (R128) -/

theorem newRecord_eq {auth : List Byte} {energyCap costCap : Nat} (hauth : auth.length = 8) (hcap : energyCap < 2 ^ 32)
    (hcost : costCap < 2 ^ 32) (i : BankId) (b : Tariff) : s.newRecord x (openData x.byte auth energyCap costCap) i b =
      { id := s.nextId, outlet := x, auth := auth, bank := i, tariffId := b.id, startDay := s.cf.day
        startSecond := s.cf.second, endTime := none, endReason := none, lines := [], billedWh := 0
        energyCap := energyCap, costCap := costCap, idleMinutes := 0, billedIdle := 0, idleFee := 0
        fee := b.fee, flags := SessionFlags.clear } := by
  rw [State.newRecord, openData_auth hauth, openData_energyCap hauth hcap, openData_costCap hauth hcost]

section
variable {r : SessionRecord}

/-- A record without energy reaches no energy cap, and its cost cap by the fee alone. -/
theorem capReached_fresh (lines : r.lines = []) (billed : r.billedWh = 0) : r.capReached =
    if 0 < r.costCap ∧ r.costCap * 10000 ≤ r.fee then some 131 else none := by
  have cost : r.feeAndEnergy = r.fee := by rw [SessionRecord.feeAndEnergy, lines]; rfl
  rw [SessionRecord.capReached, if_neg (by rw [billed]; omega), cost]
  rfl

theorem placeSession_unplugged (h : (s.outlet x).sp.plugPresent = false) :
    s.placeSession x = (s.enter x .awaitPlug).modSc x fun c => { c with awaitTimer := true } := if_pos h

theorem placeSession_halted (h : (s.outlet x).sp.plugPresent = true) (halted : s.pv.isHalted = true) :
    s.placeSession x = (s.enter x .suspended).modFlags x fun f => { f with halted := true } :=
  (if_neg (by rw [h]; decide)).trans (if_pos halted)

theorem placeSession_plugged (h : (s.outlet x).sp.plugPresent = true) (free : s.pv.isHalted = false) : s.placeSession x = s.connect x :=
  (if_neg (by rw [h]; decide)).trans (if_neg (by rw [free]; decide))

end

/-- Settles O37: the record is booked, and the outlet goes by its plug, the halt and the cost cap. -/
theorem openSessionAccepted : Obligations.OpenSessionAccepted := by
  intro s x auth energyCap costCap i b data hfree law hauth hcap hcost hk hclock fitted vacant free hi hb room hdata r hr u hu
  have given : data = openData x.byte auth energyCap costCap := hdata
  have booked : u = s.bookSession x r := by rw [hu, hr]; rfl
  have record : s.newRecord x data i b = r := by rw [given, hr]; exact newRecord_eq hauth (by omega) hcost i b
  obtain ⟨inside, sc, sp, mu, -⟩ := bookSession_inSession ((outletLaw_iff s).1 law) vacant r
  have contactor := vacant_contactor ((outletLaw_iff s).1 law) vacant
  rw [← booked] at inside sc sp mu
  have pv : u.pv = s.pv := by rw [hu]; simp
  have state : (u.outlet x).sc.state = .vacant := by rw [sc]; exact vacant
  have silent : (u.outlet x).mu = { (u.outlet x).mu with silenceTimer := false } := by
    have stopped := stopped_of (((outletLaw_iff s).1 law).fits x).silenceTimer (by rw [vacant]; decide)
    rw [mu, MeterOutlet.openWindow, stopped]
  have cap := capReached_fresh (r := r) (by rw [hr]) (by rw [hr])
  have fee : r.fee = b.fee ∧ r.costCap = costCap := by rw [hr]; exact ⟨rfl, rfl⟩
  rw [fee.1, fee.2] at cap
  refine ⟨u.placeSession x, ?_, (placeSession_work u x).onlyOutlet, fun plug => ?_, fun plug halted => ?_, fun plug going below => ?_,
    fun plug going above reached => ?_⟩
  · rw [exec_row (c := .openSession) hfree rfl, booked, ← record]
    have accepted := openSessionAt_ready (data := data) ⟨hk, hclock, fitted⟩ vacant free hi hb
    rw [if_neg (by omega)] at accepted
    have command : openSessionCommand data s = s.openSessionAt x data := by rw [given]; exact openSessionCommand_named hauth hcap
    exact congrArg (fun r => Host.Outcome.next (answeredBy .openSession r)) (command.trans accepted)
  · obtain ⟨awaitSc, awaitMu, awaitSp⟩ := await_outlet (s := u) (x := x) (by rw [state]; decide)
    rw [placeSession_unplugged (by rw [sp]; exact plug)]
    exact ⟨by simp, by simp, awaitSp.trans sp, awaitMu.trans silent.symm, awaitSc⟩
  · have held := hold_held (s := u) (x := x) (by rw [state]; decide)
    rw [placeSession_halted (by rw [sp]; exact plug) (by rw [pv]; exact halted)]
    exact ⟨held.ts, held.sq, held.sp.trans sp, held.mu.trans silent.symm, by rw [held.sc, inside.session]; rfl⟩
  · rw [if_neg (by omega)] at cap
    have connected := connect_spec inside.session cap (by rw [state]; decide) (.inl (by rw [sp]; exact contactor))
    rw [placeSession_plugged (by rw [sp]; exact plug) (by rw [pv]; exact going)]
    exact ⟨connected.ts, connected.sq, connected.mu.trans silent.symm, connected.sc,
      by rw [connected.sp, sp, if_pos contactor]⟩
  · rw [if_pos ⟨above, reached⟩] at cap
    rw [placeSession_plugged (by rw [sp]; exact plug) (by rw [pv]; exact going), connect_capped inside.session cap]
    exact (ordinaryStop_spec 131 inside (by rw [state]; decide)).1

end

end Sys2Proof.Proofs.SessionCommands
end

section
/-! Data laid out field by field (sections 1.5, 8.2, 10.6, 11.2 of the manual): a sequence of numbers written one behind the other, each
found at its place, and LOAD_TARIFF's data read with it (R152 to R154). -/

namespace Sys2Proof.Proofs.Layouts

open Machine SettlementQueue CommandRows

/-! ## Fields one behind the other -/

/-- The bytes of a layout: each entry is a length and a value. -/
def encode (fields : List (Nat × Nat)) : List Byte := fields.flatMap fun f => bytesOf f.1 f.2

/-- The fields of a layout stand in the data from a position on. -/
def FieldsAt (d : List Byte) : Nat → List (Nat × Nat) → Prop
  | _, [] => True
  | p, f :: rest => Carries d p f.1 f.2 ∧ FieldsAt d (p + f.1) rest

theorem encode_cons (f : Nat × Nat) (rest : List (Nat × Nat)) : encode (f :: rest) = bytesOf f.1 f.2 ++ encode rest := rfl

theorem length_encode (fields : List (Nat × Nat)) : (encode fields).length = (fields.map Prod.fst).sum := by
  simp [encode, List.length_flatMap]

/-- What stands behind `p` bytes. -/
theorem take_behind {front : List Byte} {p : Nat} (h : front.length = p) (bytes tail : List Byte) :
    ((front ++ (bytes ++ tail)).drop p).take bytes.length = bytes := by
  rw [List.drop_left' h, List.take_left' rfl]

theorem carries_behind {front : List Byte} {p : Nat} (h : front.length = p) (n v : Nat) (tail : List Byte) :
    Carries (front ++ (bytesOf n v ++ tail)) p n v := by
  have taken := take_behind h (bytesOf n v) tail
  rwa [length_bytesOf] at taken

/-- A layout written behind `p` bytes is found from there on. -/
theorem fieldsAt_encode (fields : List (Nat × Nat)) (tail : List Byte) {front : List Byte} {p : Nat} (h : front.length = p) :
    FieldsAt (front ++ (encode fields ++ tail)) p fields := by
  induction fields generalizing front p with
  | nil => trivial
  | cons f rest ih =>
    rw [encode_cons, List.append_assoc]
    refine ⟨carries_behind h _ _ _, ?_⟩
    rw [← List.append_assoc]
    exact ih (by simp [h])

/-- A number that is found is read. -/
theorem field_of_carries {d : List Byte} {p n v : Nat} (h : Carries d p n v) (hv : v < 256 ^ n) : field d p n = v := by
  rw [field, h, natOfBytes_bytesOf, Nat.mod_eq_of_lt hv]

/-! ## LOAD_TARIFF's data (R152) -/

section
variable {s : State} {data : List Byte}

theorem startsRise_iff (bands : List Band) : startsRise bands = true ↔ bands.Pairwise fun a b => a.start < b.start := by
  have chain : startsRise bands = true ↔ bands.IsChain fun a b => a.start < b.start := by
    induction bands with
    | nil => simp [startsRise]
    | cons a rest ih =>
      cases rest with
      | nil => simp [startsRise]
      | cons b rest => rw [startsRise, Bool.and_eq_true, decide_eq_true_eq, ih, List.isChain_cons_cons]
  have trans : IsTrans Band fun a b => a.start < b.start := ⟨fun _ _ _ => Nat.lt_trans⟩
  rw [chain, List.isChain_iff_pairwise]

/-- R152: what the data of LOAD_TARIFF must meet. -/
theorem tariffAccepted_iff (data : List Byte) : tariffAccepted data = true ↔
    (1 ≤ field data 11 1 ∧ field data 11 1 ≤ 6 ∧ data.length = 12 + 4 * field data 11 1 ∧ (readTariff data).id ≠ 0 ∧
      (readTariff data).idleMax ≤ 1440) ∧
    (readTariff data).bands.head?.map Band.start = some 0 ∧ (∀ b ∈ (readTariff data).bands, b.start ≤ 1439) ∧
    (readTariff data).bands.Pairwise fun a b => a.start < b.start := by
  unfold tariffAccepted
  dsimp only
  rw [Bool.and_eq_true, Bool.and_eq_true, Bool.and_eq_true, startsRise_iff, decide_eq_true_eq, and_assoc, and_assoc]
  refine and_congr_right fun _ => and_congr ?_ (and_congr_left fun _ => by simp)
  cases (readTariff data).bands <;> simp

/-- The bands of a tariff as LOAD_TARIFF carries them. -/
def bandFields (bands : List Band) : List (Nat × Nat) := bands.flatMap fun b => [(2, b.start), (2, b.price)]

theorem encode_bandFields (bands : List Band) :
    encode (bandFields bands) = bands.flatMap fun b => bytesOf 2 b.start ++ bytesOf 2 b.price := by
  simp [encode, bandFields, List.flatMap_assoc]

theorem length_bandFields (bands : List Band) : ((bandFields bands).map Prod.fst).sum = 4 * bands.length := by
  induction bands with
  | nil => rfl
  | cons b rest ih =>
    show 2 + (2 + ((bandFields rest).map Prod.fst).sum) = _
    rw [ih, List.length_cons]
    omega

theorem readBands_fieldsAt {bands : List Band} (range : ∀ b ∈ bands, b.start < 65536 ∧ b.price < 65536) {p : Nat}
    (h : FieldsAt data p (bandFields bands)) : readBands data bands.length p = bands := by
  induction bands generalizing p with
  | nil => rfl
  | cons b rest ih =>
    obtain ⟨start, price, behind⟩ := h
    obtain ⟨hstart, hprice⟩ := range b List.mem_cons_self
    have later : readBands data rest.length (p + 4) = rest := ih (fun c hc => range c (List.mem_cons_of_mem _ hc)) behind
    rw [List.length_cons, readBands, field_of_carries start hstart, field_of_carries price hprice, later]

theorem loadTariffCommand_refused (h : tariffAccepted data = false) : loadTariffCommand data s = s.refuse .badArgument := if_pos h

theorem loadTariffCommand_accepted (h : tariffAccepted data = true) : loadTariffCommand data s =
    s.ts.target.elim (s.refuse .bankBound) fun i =>
      { state := { s with ts := s.ts.load i (readTariff data) }, status := .ok, data := bytesOf 1 i.number } := by
  unfold loadTariffCommand
  rw [if_neg (by rw [h]; decide)]
  cases s.ts.target <;> rfl

/-- R153: the target by the active bank and the two bound counts. -/
theorem target_eq (t : TariffStore) : t.target =
    if t.active = some .bank0 then
      if t.bank1.bound = 0 then some .bank1 else if t.bank0.bound = 0 then some .bank0 else none
    else if t.bank0.bound = 0 then some .bank0 else if t.bank1.bound = 0 then some .bank1 else none := by
  unfold TariffStore.target
  cases ha : t.active with
  | none => rfl
  | some i => cases i <;> rfl

theorem tariffAccepted_length (h : tariffAccepted data = true) :
    ∃ n, 1 ≤ n ∧ n ≤ 6 ∧ data.length = 12 + 4 * n ∧ data[11]? = some (BitVec.ofNat 8 n) := by
  obtain ⟨⟨low, high, length, -⟩, -⟩ := (tariffAccepted_iff data).1 h
  have inside : 11 < data.length := by omega
  have byte : field data 11 1 = data[11].toNat := by
    rw [field, List.drop_eq_getElem_cons inside]
    exact field_byte _ _
  exact ⟨field data 11 1, low, high, length, by rw [List.getElem?_eq_getElem inside, byte, byte_ofNat_toNat]⟩

/-- LOAD_TARIFF's data read back. -/
theorem readTariff_encode {id fee grace idlePrice idleMax : Nat} {bands : List Band} (hid : id < 65536) (hfee : fee < 16777216)
    (hgrace : grace < 256) (hprice : idlePrice < 16777216) (hmax : idleMax < 65536) (hbands : bands.length ≤ 6)
    (range : ∀ b ∈ bands, b.start < 65536 ∧ b.price < 65536)
    (hdata : data = encode ([(2, id), (3, fee), (1, grace), (3, idlePrice), (2, idleMax), (1, bands.length)] ++ bandFields bands)) :
    field data 11 1 = bands.length ∧ data.length = 12 + 4 * bands.length ∧ readTariff data =
      { id := id, fee := fee, bands := bands, idleGrace := grace, idlePrice := idlePrice, idleMax := idleMax } := by
  have all := fieldsAt_encode ([(2, id), (3, fee), (1, grace), (3, idlePrice), (2, idleMax), (1, bands.length)] ++ bandFields bands)
    [] (front := []) rfl
  rw [List.nil_append, List.append_nil, ← hdata] at all
  obtain ⟨atId, atFee, atGrace, atPrice, atMax, atCount, atBands⟩ := all
  have count : field data 11 1 = bands.length := field_of_carries atCount (by omega)
  refine ⟨count, ?_, ?_⟩
  · rw [hdata, length_encode, List.map_append, List.sum_append, length_bandFields]
    rfl
  · have read : readBands data bands.length 12 = bands := readBands_fieldsAt range atBands
    unfold readTariff
    rw [count, read, field_of_carries (p := 0) (n := 2) atId hid, field_of_carries (p := 2) (n := 3) atFee hfee,
      field_of_carries (p := 5) (n := 1) atGrace hgrace, field_of_carries (p := 6) (n := 3) atPrice hprice,
      field_of_carries (p := 9) (n := 2) atMax hmax]

/-- Settles O35: the data as R152 asks, and the target bank. -/
theorem loadTariff : Obligations.LoadTariff := by
  intro s data hfree
  have row : exec (.loadTariff data) s = .next (answeredBy .loadTariff (loadTariffCommand data s)) := exec_row hfree rfl
  rw [row]
  have refused (h : tariffAccepted data = false) :
      (.next (answeredBy .loadTariff (loadTariffCommand data s)) : Host.Outcome State Fault Refusal) =
        .next (s.answered 0x20 0x02 []) := by rw [loadTariffCommand_refused h]; rfl
  refine ⟨fun bad => refused (Bool.eq_false_iff.2 fun good => ?_),
    fun id fee grace idlePrice idleMax bands hid hfee hgrace hprice hmax hlow hhigh range hdata => ?_⟩
  · obtain ⟨n, low, high, length, byte⟩ := tariffAccepted_length good
    exact bad n low high length byte
  · have layout : data =
        encode ([(2, id), (3, fee), (1, grace), (3, idlePrice), (2, idleMax), (1, bands.length)] ++ bandFields bands) := by
      rw [hdata, encode, List.flatMap_append, ← encode, ← encode, encode_bandFields]
      simp [encode]
    obtain ⟨count, length, read⟩ := readTariff_encode hid hfee hgrace hprice hmax hhigh range layout
    have accepted := tariffAccepted_iff data
    rw [count, read] at accepted
    refine ⟨fun bad => refused (Bool.eq_false_iff.2 fun good => ?_), fun hid hmax first minutes rise tariff htariff => ?_⟩
    · obtain ⟨⟨-, -, -, id', max'⟩, first, minutes, rise⟩ := accepted.1 good
      obtain bad | bad | bad | ⟨b, hb, bad⟩ | bad := bad
      · exact id' bad
      · exact absurd (show idleMax ≤ 1440 from max') (by omega)
      · exact bad first
      · exact absurd (minutes b hb) (by omega)
      · exact bad rise
    · have good := accepted.2 ⟨⟨hlow, hhigh, length, hid, hmax⟩, first, minutes, rise⟩
      rw [← htariff] at read
      rw [loadTariffCommand_accepted good, read, target_eq]
      split <;> split <;> first | rfl | (split <;> rfl)

end

end Sys2Proof.Proofs.Layouts
end

section
/-! CONFIGURE on a free link (R194, R195): the data's fields, its refusals, and the acceptance with the site-trip input released or
asserted. -/

namespace Sys2Proof.Proofs.ConfigureCommand

open Machine OutletOperations SettlementQueue CommandRows Layouts Halts ReceivedFrames

section
variable {s t : State} {x : Outlet} {data : List Byte} {k : Configuration}

/-! ## The data (R194) -/

theorem readConfiguration_encode (range : k.budget < 65536 ∧ k.margin < 65536 ∧ k.fallback < 65536 ∧ k.population < 256 ∧ k.ramp < 65536 ∧
      k.rated < 65536 ∧ k.ratingA < 65536 ∧ k.ratingB < 65536 ∧ k.tolerance < 65536 ∧ k.pulseWeight < 256 ∧ k.tripSeconds < 256)
    (hdata : data = encode [(2, k.budget), (2, k.margin), (2, k.fallback), (1, k.population), (2, k.ramp), (2, k.rated), (2, k.ratingA),
      (2, k.ratingB), (2, k.tolerance), (1, k.pulseWeight), (1, k.tripSeconds)]) : data.length = 19 ∧ readConfiguration data = k := by
  have all := fieldsAt_encode [(2, k.budget), (2, k.margin), (2, k.fallback), (1, k.population), (2, k.ramp), (2, k.rated), (2, k.ratingA),
    (2, k.ratingB), (2, k.tolerance), (1, k.pulseWeight), (1, k.tripSeconds)] [] (front := []) rfl
  rw [List.nil_append, List.append_nil, ← hdata] at all
  obtain ⟨budget, margin, fallback, population, ramp, rated, ratingA, ratingB, tolerance, pulseWeight, tripSeconds, -⟩ := all
  obtain ⟨h1, h2, h3, h4, h5, h6, h7, h8, h9, h10, h11⟩ := range
  refine ⟨by rw [hdata, length_encode]; rfl, ?_⟩
  unfold readConfiguration
  rw [field_of_carries (p := 0) (n := 2) budget h1, field_of_carries (p := 2) (n := 2) margin h2,
    field_of_carries (p := 4) (n := 2) fallback h3, field_of_carries (p := 6) (n := 1) population h4,
    field_of_carries (p := 7) (n := 2) ramp h5, field_of_carries (p := 9) (n := 2) rated h6,
    field_of_carries (p := 11) (n := 2) ratingA h7, field_of_carries (p := 13) (n := 2) ratingB h8,
    field_of_carries (p := 15) (n := 2) tolerance h9, field_of_carries (p := 17) (n := 1) pulseWeight h10,
    field_of_carries (p := 18) (n := 1) tripSeconds h11]

/-! ## The acceptance (R28, R70, R195) -/

/-- The state with the record taken, the view restricted and SE joined, before the site-trip input is looked at. -/
def joined (s : State) (k : Configuration) : State :=
  ({ s with cf := { s.cf with config := some k } } : State).setView (s.pv.restrict k.population) |>.joinAtConfigure

theorem or_none (e : BitVec 9) : e ||| 0 = e := BitVec.or_zero

theorem joined_eq (s : State) (k : Configuration) : joined s k =
    { s with
      cf := { s.cf with config := some k }, pv := s.pv.restrict k.population
      se := if s.se.state = .unconfigured then { s.se with state := .joining, cap := 0, timer := 0 } else s.se
      pk := { s.pk with edge := s.pk.edge ||| (if (s.pv.restrict k.population).level = s.pv.level then 0 else 0x10) |||
        (if s.se.state = .unconfigured then 0x04 else 0) } } := by
  unfold joined State.joinAtConfigure
  rw [setView_eq]
  dsimp only
  by_cases level : (s.pv.restrict k.population).level = s.pv.level
  · rw [if_pos level, if_pos level, or_none]
    by_cases fresh : s.se.state = .unconfigured
    · rw [if_pos fresh, if_pos fresh, if_pos fresh]
      rfl
    · rw [if_neg fresh, if_neg fresh, if_neg fresh, or_none]
  · rw [if_neg level, if_neg level]
    by_cases fresh : s.se.state = .unconfigured
    · rw [if_pos fresh, if_pos fresh, if_pos fresh]
      rfl
    · rw [if_neg fresh, if_neg fresh, if_neg fresh, or_none]

theorem joined_trip (s : State) (k : Configuration) : (joined s k).se.tripInput = s.se.tripInput := by
  rw [joined_eq]; dsimp only; split <;> rfl

theorem joined_barred (s : State) (k : Configuration) : (joined s k).se.state = .barred ↔ s.se.state = .barred := by
  rw [joined_eq]
  dsimp only
  split
  · next fresh => rw [fresh]; simp
  · exact Iff.rfl

theorem joined_line (s : State) (k : Configuration) : (joined s k).li = s.li ∧ (joined s k).ownStation = s.ownStation := by
  rw [joined_eq]; exact ⟨rfl, rfl⟩

theorem acceptConfiguration_released (h : s.se.tripInput = false) : s.acceptConfiguration k = joined s k := by
  have level : (joined s k).se.tripInput ≠ true := by rw [joined_trip, h]; decide
  have config : (joined s k).cf.config = some k := by rw [joined_eq]
  show (joined s k).retrip = _
  unfold State.retrip
  rw [config]
  exact if_neg level

theorem acceptConfiguration_asserted (h : s.se.tripInput = true) : s.acceptConfiguration k = (joined s k).tripBegins k := by
  have level : (joined s k).se.tripInput = true := by rw [joined_trip, h]
  have config : (joined s k).cf.config = some k := by rw [joined_eq]
  show (joined s k).retrip = _
  unfold State.retrip
  rw [config]
  exact if_pos level

/-- What an own halt leaves: of the pedestal link it touches the causes alone. -/
theorem originated_keeps {seconds reason : Nat} (h : Originated s t seconds reason) : t.cf = s.cf ∧ t.pk = { s.pk with edge := t.pk.edge } := by
  rcases Nat.eq_zero_or_pos s.pv.hold with none | going
  · obtain ⟨shape, -⟩ := h.begins none
    have cf := congrArg State.cf shape
    have pk := congrArg State.pk shape
    exact ⟨cf, pk⟩
  · have shape := h.goesOn going
    have cf := congrArg State.cf shape
    have pk := congrArg State.pk shape
    exact ⟨cf, by rw [pk]⟩

/-- R82: what the site trip leaves of a state, its outlets and counters aside. -/
structure Tripped (s t : State) (seconds : Nat) : Prop where
  cf : t.cf = s.cf
  pv : t.pv = heldView s.pv s.ownStation seconds 1
  li : if s.se.state = .barred then t.li = s.li
    else Placed s.li t.li .halt (parkFrame .halt s.ownStation [BitVec.ofNat 8 seconds, 1])
  state : t.se.state = s.se.state
  pk : t.pk = { s.pk with edge := t.pk.edge }

theorem tripBegins_tripped (s : State) (k : Configuration) : Tripped s (s.tripBegins k) k.tripSeconds := by
  have own := originateHalt_originated s k.tripSeconds 1
  obtain ⟨cf, pk⟩ := originated_keeps own
  have state := congrArg ShareEngine.state own.se
  exact ⟨cf, own.pv, own.li, state, pk⟩

/-- The acceptance with the site-trip input asserted, in terms of the state before it. -/
theorem joined_tripped (s : State) (k : Configuration) : ∃ t, (joined s k).tripBegins k = t ∧ t.cf = { s.cf with config := some k } ∧
    t.pv.hold = max s.pv.hold k.tripSeconds ∧ t.pv.haltRecord = some { source := s.ownStation, reason := 1 } ∧
    t.pk.hold = s.pk.hold ∧
    (if s.se.state = .barred then t.li = s.li
      else Placed s.li t.li .halt (parkFrame .halt s.ownStation [BitVec.ofNat 8 k.tripSeconds, 1])) ∧
    t.se.state = if s.se.state = .unconfigured then .joining else s.se.state := by
  obtain ⟨cf, pv, li, state, pk⟩ := tripBegins_tripped (joined s k) k
  generalize (joined s k).tripBegins k = t at *
  rw [(joined_line s k).1, (joined_line s k).2] at li
  have line : if s.se.state = .barred then t.li = s.li
      else Placed s.li t.li .halt (parkFrame .halt s.ownStation [BitVec.ofNat 8 k.tripSeconds, 1]) := by
    by_cases barred : s.se.state = .barred
    · rw [if_pos barred]
      rwa [if_pos ((joined_barred s k).2 barred)] at li
    · rw [if_neg barred]
      rwa [if_neg fun h => barred ((joined_barred s k).1 h)] at li
  rw [joined_eq] at cf pv state pk
  exact ⟨t, rfl, cf, by rw [pv]; rfl, by rw [pv]; rfl, by rw [pk], line, by rw [state]; dsimp only; split <;> rfl⟩

/-! ## CONFIGURE -/

theorem configureCommand_again (h : s.cf.config.isSome = true) : configureCommand data s = s.refuse .alreadyConfigured :=
  if_pos (isConfigured_of_isSome h)

theorem configureCommand_refused (h : s.cf.config = none) (bad : ¬ (data.length = 19 ∧ (readConfiguration data).Valid s.cf.straps)) :
    configureCommand data s = s.refuse .badArgument :=
  (if_neg (by rw [isConfigured_of_none h]; decide)).trans (if_neg bad)

theorem configureCommand_accepted (h : s.cf.config = none) (good : data.length = 19 ∧ (readConfiguration data).Valid s.cf.straps) :
    configureCommand data s = (s.acceptConfiguration (readConfiguration data)).accept :=
  (if_neg (by rw [isConfigured_of_none h]; decide)).trans (if_pos good)

/-- Settles O31: the refusals in their order, and the acceptance with the site-trip input released and asserted. -/
theorem configure : Obligations.Configure := by
  intro s hfree
  have row (data : List Byte) : exec (.configure data) s = .next (answeredBy .configure (configureCommand data s)) := exec_row hfree rfl
  refine ⟨fun hk data => by rw [row, configureCommand_again hk]; rfl, fun hk data length => ?_,
    fun hk B M F N U P A O T W D data h1 h2 h3 h4 h5 h6 h7 h8 h9 h10 h11 hdata k hrecord => ?_⟩
  · rw [row, configureCommand_refused hk fun good => length good.1]; rfl
  have layout : data = encode [(2, k.budget), (2, k.margin), (2, k.fallback), (1, k.population), (2, k.ramp), (2, k.rated), (2, k.ratingA),
      (2, k.ratingB), (2, k.tolerance), (1, k.pulseWeight), (1, k.tripSeconds)] := by
    rw [hdata, hrecord]
    simp [encode]
  obtain ⟨length, read⟩ := readConfiguration_encode (by rw [hrecord]; exact ⟨h1, h2, h3, h4, h5, h6, h7, h8, h9, h10, h11⟩) layout
  have valid : (readConfiguration data).Valid s.cf.straps ↔ 100 ≤ B ∧ F ≤ P ∧ 2 ≤ N ∧ N ≤ 32 ∧ s.ownStation < N ∧ 1 ≤ U ∧ 1 ≤ P ∧ 1 ≤ A ∧
      A ≤ P ∧ (s.cf.straps.twoOutlets = true → 1 ≤ O ∧ O ≤ P) ∧ (W = 1 ∨ W = 2 ∨ W = 5 ∨ W = 10) ∧ 1 ≤ D ∧ M + F * N ≤ B := by
    rw [read, hrecord]; exact Iff.rfl
  rw [row]
  split
  · next good =>
    have accepted := configureCommand_accepted hk ⟨length, valid.2 good⟩
    rw [read] at accepted
    rw [accepted]
    have population : k.population = N := by rw [hrecord]
    refine ⟨fun released => ?_, fun asserted => ?_⟩
    · rw [acceptConfiguration_released released]
      refine ⟨joined s k, rfl, by rw [joined_eq], ?_, by rw [joined_eq], by rw [joined_eq]⟩
      rw [joined_eq, population]
      rfl
    · rw [acceptConfiguration_asserted asserted]
      obtain ⟨t, tripped, cf, hold, record, link, li, state⟩ := joined_tripped s k
      have seconds : k.tripSeconds = D := by rw [hrecord]
      rw [tripped]
      rw [seconds] at hold li
      refine ⟨t.answered 0x10 0x00 [], rfl, cf, hold, record, ?_, li, state⟩
      show (if t.pk.hold = true then _ else _) = if s.pk.hold = true then _ else _
      rw [link]
  · next bad => rw [configureCommand_refused hk fun good => bad (valid.1 good.2)]; rfl

end

end Sys2Proof.Proofs.ConfigureCommand
end

section
/-! The reading commands (R37, R148, R170, R171, R190): each answer is a layout of fields, and each field is found at its place. -/

namespace Sys2Proof.Proofs.ReadingReports

open Machine OutletOperations SettlementQueue CommandRows Layouts SessionCommands Identification RoundFigures

section
variable {s t : State} {x : Outlet} {data : List Byte} {front tail : List Byte} {p : Nat}

/-! ## Layouts -/

theorem foldr_flags (l : List Bool) : l.foldr (fun f acc => acc * 2 + f.toNat) 0 = flagBits l := by
  induction l with
  | nil => rfl
  | cons f rest ih => cases f <;> simp [flagBits, ih] <;> omega

theorem flags_byte (l : List Bool) : [bitsByte l] = bytesOf 1 (flagBits l) := by
  rw [bytesOf_one, bitsByte, foldr_flags]

theorem encode_pair (n v : Nat) (rest : List (Nat × Nat)) : encode ((n, v) :: rest) = bytesOf n v ++ encode rest := rfl

theorem encode_nil : encode [] = [] := rfl

theorem fieldsAt_front (fields : List (Nat × Nat)) (tail : List Byte) : FieldsAt (encode fields ++ tail) 0 fields :=
  fieldsAt_encode fields tail (front := []) rfl

theorem encode_append (a b : List (Nat × Nat)) : encode (a ++ b) = encode a ++ encode b := List.flatMap_append

/-- A list of layouts of one size: the i-th stands i sizes behind the front. -/
theorem fieldsAt_flatMap {α : Type} (f : α → List (Nat × Nat)) {n : Nat} (size : ∀ a, ((f a).map Prod.fst).sum = n) (l : List α)
    (tail : List Byte) (h : front.length = p) :
    ∀ e ∈ l.zipIdx, FieldsAt (front ++ (encode (l.flatMap f) ++ tail)) (p + n * e.2) (f e.1) := by
  induction l generalizing front p with
  | nil => exact fun e he => (List.not_mem_nil he).elim
  | cons a rest ih =>
    rintro ⟨b, i⟩ he
    rw [List.flatMap_cons, encode_append, List.append_assoc]
    rw [List.mem_zipIdx_iff_getElem?] at he
    cases i with
    | zero =>
      rw [List.getElem?_cons_zero, Option.some.injEq] at he
      subst he
      exact fieldsAt_encode (f a) _ h
    | succ i =>
      have moved : (front ++ encode (f a)).length = p + n := by rw [List.length_append, h, length_encode, size]
      have found := ih moved (b, i) (List.mem_zipIdx_iff_getElem?.2 he)
      rw [List.append_assoc] at found
      rw [show p + n * (i + 1) = p + n + n * i by ring]
      exact found

/-! ## A session record (R170) -/

/-- The fields before the authorisation reference. -/
def recordHead (r : SessionRecord) : List (Nat × Nat) :=
  [(2, r.id), (1, flagBits [decide (r.outlet = .b), decide (r.bank = .bank1), r.endReason.isSome, r.endTime.isSome]),
   (1, r.endReason.getD 0), (1, flagBits [r.flags.meterClamped, r.flags.meterDisagree, r.flags.capOverrun, r.flags.idleClamped,
    r.flags.clockStepped, r.flags.reduced, r.flags.halted, r.flags.weldSuspect])]

/-- The fields behind it, up to the lines. -/
def recordBody (r : SessionRecord) (amount : Nat) : List (Nat × Nat) :=
  [(2, r.tariffId), (2, r.startDay), (3, r.startSecond), (2, (r.endTime.map Prod.fst).getD 0), (3, (r.endTime.map Prod.snd).getD 0),
   (3, r.billedWh), (3, r.energyCap), (4, r.costCap), (3, r.fee), (2, r.idleMinutes), (2, r.billedIdle), (5, r.idleFee), (3, amount),
   (1, r.lines.length)]

def lineFields (l : BandLine) : List (Nat × Nat) := [(1, l.band), (3, l.wh), (2, l.price)]

theorem bytes_lines (ls : List BandLine) : (ls.map BandLine.bytes).flatten = encode (ls.flatMap lineFields) := by
  induction ls with
  | nil => rfl
  | cons l rest ih =>
    rw [List.map_cons, List.flatten_cons, ih, List.flatMap_cons, encode_append]
    simp only [BandLine.bytes, lineFields, encode_pair, encode_nil, List.append_nil, List.append_assoc]

theorem record_bytes (r : SessionRecord) (amount : Nat) :
    r.bytes amount = encode (recordHead r) ++ (r.auth ++ (encode (recordBody r amount) ++ encode (r.lines.flatMap lineFields))) := by
  have first : (r.endTime.getD (0, 0)).1 = (r.endTime.map Prod.fst).getD 0 := by cases r.endTime <;> rfl
  have second : (r.endTime.getD (0, 0)).2 = (r.endTime.map Prod.snd).getD 0 := by cases r.endTime <;> rfl
  unfold SessionRecord.bytes
  dsimp only
  rw [first, second, bytes_lines]
  simp only [recordHead, recordBody, encode_pair, encode_nil, SessionFlags.byte, flags_byte]
  simp only [List.append_nil, List.append_assoc]

theorem length_record (r : SessionRecord) (amount : Nat) (h : r.auth.length = 8) :
    (r.bytes amount).length = 51 + 6 * r.lines.length := by
  have lines : ((r.lines.flatMap lineFields).map Prod.fst).sum = 6 * r.lines.length := by
    induction r.lines with
    | nil => rfl
    | cons l rest ih =>
      show 1 + (3 + (2 + ((rest.flatMap lineFields).map Prod.fst).sum)) = _
      rw [ih, List.length_cons]; omega
  rw [record_bytes, List.length_append, List.length_append, List.length_append, length_encode, length_encode, length_encode, lines, h]
  show 5 + (8 + (38 + 6 * r.lines.length)) = _
  omega

theorem recordAt_bytes (r : SessionRecord) (amount : Nat) (hauth : r.auth.length = 8) (h : front.length = p) :
    RecordAt (front ++ r.bytes amount) p r amount := by
  rw [record_bytes]
  obtain ⟨id, marks, reason, flags, -⟩ := fieldsAt_encode (recordHead r)
    (r.auth ++ (encode (recordBody r amount) ++ encode (r.lines.flatMap lineFields))) h
  have head : (front ++ encode (recordHead r)).length = p + 5 := by rw [List.length_append, h, length_encode]; rfl
  have auth := take_behind head r.auth (encode (recordBody r amount) ++ encode (r.lines.flatMap lineFields))
  have toBody : (front ++ encode (recordHead r) ++ r.auth).length = p + 13 := by rw [List.length_append, head, hauth]
  have body := fieldsAt_encode (recordBody r amount) (encode (r.lines.flatMap lineFields)) toBody
  have toLines : (front ++ encode (recordHead r) ++ r.auth ++ encode (recordBody r amount)).length = p + 51 := by
    rw [List.length_append, toBody, length_encode]; rfl
  have lines := fieldsAt_flatMap (n := 6) lineFields (fun _ => rfl) r.lines [] toLines
  rw [List.append_nil] at lines
  simp only [List.append_assoc] at auth body lines ⊢
  rw [hauth] at auth
  obtain ⟨tariff, day, second, endDay, endSecond, wh, energyCap, costCap, fee, idle, billedIdle, idleFee, amount, count, -⟩ := body
  refine ⟨id, marks, reason, flags, auth, tariff, day, second, endDay, endSecond, wh, energyCap, costCap, fee, idle, billedIdle, idleFee,
    amount, count, fun l hl => ?_⟩
  obtain ⟨band, wh, price, -⟩ := lines l hl
  rw [show p + 52 + 6 * l.2 = p + 51 + 6 * l.2 + 1 by ring, show p + 55 + 6 * l.2 = p + 51 + 6 * l.2 + 1 + 3 by ring]
  exact ⟨band, wh, price⟩

/-! ## READ_STATUS (R190) -/

theorem pendingSet_toNat (s : State) : s.pendingSet.toNat = 2 * s.pk.edge.toNat + (if s.sq.queue = [] then 0 else 1) := by
  have bit : (if s.settlePending = true then 1#10 else 0#10).toNat = if s.sq.queue = [] then 0 else 1 := by
    unfold State.settlePending
    cases s.sq.queue <;> rfl
  have small : (if s.sq.queue = [] then 0 else 1) < 2 ^ 1 := by split <;> decide
  have edge : s.pk.edge.toNat < 512 := s.pk.edge.isLt
  have shifted : (s.pk.edge.setWidth 10 <<< 1).toNat = s.pk.edge.toNat <<< 1 := by
    rw [BitVec.toNat_shiftLeft, BitVec.toNat_setWidth, Nat.shiftLeft_eq, Nat.shiftLeft_eq, Nat.mod_eq_of_lt (a := s.pk.edge.toNat) (by omega)]
    exact Nat.mod_eq_of_lt (by omega)
  rw [State.pendingSet, BitVec.toNat_or, bit, shifted, ← Nat.shiftLeft_add_eq_or_of_lt small, Nat.shiftLeft_eq]
  omega

/-- The fields of the station part. -/
def stationFields (s : State) : List (Nat × Nat) :=
  [(2, 2 * s.pk.edge.toNat + (if s.sq.queue = [] then 0 else 1)), (2, s.pk.mask.toNat), (1, s.se.state.code), (1, s.se.timer),
   (1, s.se.failed), (2, s.se.cap), (1, s.se.origin),
   (1, flagBits [s.se.tripInput, s.estop, decide (0 < s.pv.hold), s.cf.config.isSome, s.cf.clockSet]),
   (2, s.se.ceiling), (2, s.se.claim),
   (1, flagBits [s.se.figures.budget.isSome, s.se.figures.share.isSome, s.se.figures.headroom.isSome]),
   (2, s.se.figures.budget.getD 0), (2, s.se.figures.share.getD 0), (2, s.se.figures.headroom.getD 0),
   (1, s.li.condition.code + 4 * s.li.lastFault.code), (1, (s.pv.haltRecord.map HaltRecord.reason).getD 0), (1, s.pv.hold),
   (1, markerCode s.ts.active + 4 * flagBits [s.ts.bank0.tariff.isSome, s.ts.bank1.tariff.isSome] + 16 * s.ts.bank0.bound +
      64 * s.ts.bank1.bound),
   (2, (s.ts.bank0.tariff.map Tariff.id).getD 0), (2, (s.ts.bank1.tariff.map Tariff.id).getD 0),
   (1, s.sq.queue.length), (1, s.sq.reserved), (2, (s.sq.queue.head?.map fun e => e.record.id).getD 0), (2, s.cf.day), (3, s.cf.second)]

theorem station_bytes (s : State) : s.stationBytes = encode (stationFields s) := by
  have banks : markerCode s.ts.active + 4 * s.ts.bank0.tariff.isSome.toNat + 8 * s.ts.bank1.tariff.isSome.toNat +
      16 * s.ts.bank0.bound + 64 * s.ts.bank1.bound = markerCode s.ts.active +
        4 * flagBits [s.ts.bank0.tariff.isSome, s.ts.bank1.tariff.isSome] + 16 * s.ts.bank0.bound + 64 * s.ts.bank1.bound := by
    cases s.ts.bank0.tariff.isSome <;> cases s.ts.bank1.tariff.isSome <;> simp [flagBits]
  unfold State.stationBytes
  dsimp only
  rw [pendingSet_toNat, banks]
  simp only [stationFields, encode_pair, encode_nil, flags_byte, PeerView.isHalted, State.isConfigured]
  simp only [List.append_nil, List.append_assoc]

theorem stationAt_bytes (s : State) (tail : List Byte) : StationAt (s.stationBytes ++ tail) s := by
  rw [station_bytes]
  obtain ⟨causes, mask, state, timer, failed, cap, origin, levels, ceiling, claim, shown, budget, share, headroom, line, reason, hold, banks,
    bank0, bank1, queue, reserved, head, day, second, -⟩ := fieldsAt_front (stationFields s) tail
  refine ⟨causes, mask, ⟨_, state, by cases s.se.state <;> rfl⟩, timer, failed, cap, origin, levels, ceiling, claim, shown, budget, share,
    headroom, ⟨_, _, line, by cases s.li.condition <;> rfl, by cases s.li.lastFault <;> rfl⟩, reason, hold, ⟨_, ?_, banks⟩,
    bank0, bank1, queue, reserved, head, day, second⟩
  cases s.ts.active with
  | none => rfl
  | some i => cases i <;> rfl

/-- The fields of a fitted outlet. -/
def fittedFields (s : State) (x : Outlet) : List (Nat × Nat) :=
  let o := s.outlet x
  [(1, o.sc.state.code),
   (1, flagBits [true, o.sp.isConfirmed, decide (o.sp.orderTimer = .expired), o.sp.driveClosed,
      o.sp.feedbackClosed, o.sp.plugPresent, o.sp.pendingClose, o.mu.windowOpen]),
   (1, o.sp.contactor.code), (2, o.sp.ordered), (2, o.sp.confirmed), (2, o.sp.inForce),
   (4, o.mu.residue), (2, o.mu.lastDraw), (1, o.mu.overdraw),
   (1, flagBits [o.mu.silenceTimer, decide (s.cf.straps.source = .pulse) && o.mu.pulseAsserted] +
      (if s.cf.straps.source = .pulse then 4 * o.mu.disagree else 0)),
   (2, if s.cf.straps.source = .pulse then o.mu.windowPulse else 0),
   (2, if s.cf.straps.source = .pulse then min o.mu.windowSample 65535 else 0)]

/-- The fields of an outlet; one not fitted is zeros behind its state. -/
def outletFields (s : State) (x : Outlet) : List (Nat × Nat) := if s.fitted x = true then fittedFields s x else [(1, 7), (20, 0)]

theorem outlet_bytes (s : State) (x : Outlet) : s.outletBytes x = encode (outletFields s x) := by
  have timers : (s.outlet x).mu.silenceTimer.toNat +
      (if s.cf.straps.source = .pulse then 2 * (s.outlet x).mu.pulseAsserted.toNat + 4 * (s.outlet x).mu.disagree else 0) =
      flagBits [(s.outlet x).mu.silenceTimer, decide (s.cf.straps.source = .pulse) && (s.outlet x).mu.pulseAsserted] +
        (if s.cf.straps.source = .pulse then 4 * (s.outlet x).mu.disagree else 0) := by
    cases s.cf.straps.source <;> cases (s.outlet x).mu.silenceTimer <;> cases (s.outlet x).mu.pulseAsserted <;> simp [flagBits] <;> omega
  unfold State.outletBytes outletFields
  split
  · simp only [State.fittedBytes, decide_eq_true_eq, timers, flags_byte, fittedFields, min_comm Config.field16Max, encode_pair,
      encode_nil, List.append_nil, List.append_assoc]
  · rfl

theorem outletAt_bytes (s : State) (x : Outlet) (tail : List Byte) (h : front.length = p) :
    OutletAt (front ++ (s.outletBytes x ++ tail)) p s x := by
  have all := fieldsAt_encode (outletFields s x) tail h
  rw [← outlet_bytes] at all
  unfold outletFields at all
  dsimp only [OutletAt]
  split
  · next fitted =>
    rw [if_pos fitted] at all
    obtain ⟨state, marks, contactor, ordered, confirmed, inForce, residue, draw, overdraw, timers, pulse, sample, -⟩ := all
    exact ⟨⟨_, state, by cases (s.outlet x).sc.state <;> rfl⟩, marks, ⟨_, contactor, by cases (s.outlet x).sp.contactor <;> rfl⟩, ordered,
      confirmed, inForce, residue, draw, overdraw, timers, pulse, sample⟩
  · next absent =>
    rw [if_neg absent] at all
    obtain ⟨state, zeros, -⟩ := all
    exact ⟨state, zeros⟩

theorem length_outlet (s : State) (x : Outlet) : (s.outletBytes x).length = 21 := by
  rw [outlet_bytes, length_encode, outletFields]
  split <;> rfl

theorem length_station (s : State) : s.stationBytes.length = 39 := by
  rw [station_bytes, length_encode, stationFields]
  simp only [List.map_cons, List.map_nil, List.sum_cons, List.sum_nil, Nat.reduceAdd]

/-! ## READ_VIEW (R37) -/

def entryFields (e : PeerEntry) : List (Nat × Nat) :=
  [(1, e.station), (1, flagBits [e.joining, e.halted, e.parity, decide (3 ≤ e.age)]), (1, e.age), (1, e.weight), (2, e.demand),
   (2, e.ceiling), (2, e.claim), (2, e.draw)]

/-- The summary before the entries. -/
def viewFields (v : PeerView) (own : Nat) (shown : List PeerEntry) : List (Nat × Nat) :=
  [(1, v.level), (1, v.levelSource own), (1, v.hold), (1, (v.haltRecord.map HaltRecord.source).getD 255),
   (1, (v.haltRecord.map HaltRecord.reason).getD 0), (1, v.peers.length), (1, shown.length)]

theorem bytes_entries (es : List PeerEntry) : (es.map PeerEntry.bytes).flatten = encode (es.flatMap entryFields) := by
  induction es with
  | nil => rfl
  | cons e rest ih =>
    rw [List.map_cons, List.flatten_cons, ih, List.flatMap_cons, encode_append]
    refine congrArg (· ++ _) ?_
    simp only [PeerEntry.bytes, flags_byte, entryFields, encode_pair, encode_nil, List.append_nil, List.append_assoc]
    rfl

theorem view_bytes (v : PeerView) (own first : Nat) {shown : List PeerEntry}
    (h : shown = (v.peers.filter fun e => decide (first ≤ e.station)).take 7) :
    v.bytes own first = encode (viewFields v own shown) ++ encode (shown.flatMap entryFields) := by
  unfold PeerView.bytes
  dsimp only
  rw [← h, bytes_entries]
  simp only [viewFields, encode_pair, encode_nil, List.append_nil, List.append_assoc]

theorem length_entries (es : List PeerEntry) : ((es.flatMap entryFields).map Prod.fst).sum = 12 * es.length := by
  induction es with
  | nil => rfl
  | cons e rest ih =>
    show 1 + (1 + (1 + (1 + (2 + (2 + (2 + (2 + ((rest.flatMap entryFields).map Prod.fst).sum))))))) = _
    rw [ih, List.length_cons]; omega

/-- R37: the source of the level, over the curtail list with its own entry. -/
theorem levelSource_eq (s : State) : s.pv.levelSource s.ownStation =
    if s.curtailEntries = [] then 255
    else ((s.curtailEntries.filter fun e => e.2 == s.pv.level).map Prod.fst).foldr min 255 := by
  have holders : ((s.curtailEntries.filter fun e => e.2 == s.pv.level).map Prod.fst) =
      (if s.pv.ownCurtail = some s.pv.level then [s.ownStation] else []) ++
        (s.pv.curtail.filter fun e => e.level == s.pv.level).map CurtailEntry.station := by
    unfold State.curtailEntries
    rw [List.filter_append, List.map_append, List.filter_map, List.map_map]
    refine congrArg₂ (· ++ ·) ?_ (by rw [List.filter_map, List.map_map]; rfl)
    cases s.pv.ownCurtail with
    | none => rfl
    | some l => by_cases same : l = s.pv.level <;> simp [same]
  have empty : (s.pv.ownCurtail.isNone && s.pv.curtail.isEmpty) = true ↔ s.curtailEntries = [] := by
    unfold State.curtailEntries
    cases s.pv.ownCurtail <;> simp
  rw [holders]
  unfold PeerView.levelSource
  dsimp only
  by_cases none : s.curtailEntries = []
  · rw [if_pos none, if_pos (empty.2 none)]
  · rw [if_neg none, if_neg fun g => none (empty.1 g)]

/-- R37: the source is the lowest station that holds the lowest level. -/
theorem levelSource_lowest (law : s.ViewLaw) (h : s.curtailEntries ≠ []) : ∃ e ∈ s.curtailEntries,
    s.pv.levelSource s.ownStation = e.1 ∧ e.2 = s.pv.level ∧
    ∀ f ∈ s.curtailEntries, s.pv.level ≤ f.2 ∧ (f.2 = s.pv.level → e.1 ≤ f.1) := by
  obtain ⟨-, -, -, entries, origin, own, -⟩ := law
  obtain ⟨lowest, reached, -⟩ := level_lowest s
  have range : ∀ e ∈ s.curtailEntries, e.1 < 32 ∧ e.2 ≤ 100 := by
    intro e he
    unfold State.curtailEntries at he
    obtain he | he := List.mem_append.1 he
    · obtain ⟨l, hl, rfl⟩ := List.mem_map.1 he
      refine ⟨s.cf.straps.station.isLt, ?_⟩
      rw [own] at hl
      split at hl
      · rw [Option.toList_some, List.mem_singleton] at hl
        rw [hl]; exact origin
      · exact (List.not_mem_nil hl).elim
    · obtain ⟨c, hc, rfl⟩ := List.mem_map.1 he
      obtain ⟨station, -, -, -, level⟩ := entries c hc
      exact ⟨station, level⟩
  have holder : ∃ e ∈ s.curtailEntries, e.2 = s.pv.level := by
    refine reached.elim (fun full => ?_) id
    obtain ⟨e, he⟩ := List.exists_mem_of_ne_nil _ h
    exact ⟨e, he, Nat.le_antisymm (full ▸ (range e he).2) (lowest e he)⟩
  obtain ⟨-, le, found⟩ := foldr_min_le ((s.curtailEntries.filter fun e => e.2 == s.pv.level).map Prod.fst) 255
  have source := levelSource_eq s
  rw [if_neg h] at source
  rw [← source] at le found
  have below : ∀ f ∈ s.curtailEntries, f.2 = s.pv.level → s.pv.levelSource s.ownStation ≤ f.1 := fun f hf same =>
    le f.1 (List.mem_map_of_mem (List.mem_filter.2 ⟨hf, beq_iff_eq.2 same⟩))
  obtain found | found := found
  · obtain ⟨e, he, same⟩ := holder
    have := below e he same
    have := (range e he).1
    omega
  · obtain ⟨e, he, station⟩ := List.mem_map.1 found
    obtain ⟨he, same⟩ := List.mem_filter.1 he
    exact ⟨e, he, station.symm, beq_iff_eq.1 same, fun f hf => ⟨lowest f hf, fun g => station ▸ below f hf g⟩⟩

/-! ## READ_SESSION (R148) -/

/-- The fields before the record. -/
def sessionHead (c : SessionOutlet) : List (Nat × Nat) :=
  [(1, c.state.code), (1, flagBits [c.session.isSome, c.openCheck]), (2, c.requested)]

theorem session_bytes (s : State) (x : Outlet) : s.sessionBytes x =
    encode (sessionHead (s.outlet x).sc) ++ (s.outlet x).sc.session.elim [] fun r => r.bytes (Machine.settledAmount r.total) := by
  have record : s.sessionBytes x = bytesOf 1 (s.outlet x).sc.state.code ++
      [bitsByte [(s.outlet x).sc.session.isSome, (s.outlet x).sc.openCheck]] ++ bytesOf 2 (s.outlet x).sc.requested ++
      (s.outlet x).sc.session.elim [] fun r => r.bytes (Machine.settledAmount r.total) := by
    unfold State.sessionBytes
    dsimp only
    cases (s.outlet x).sc.session <;> rfl
  rw [record, flags_byte]
  simp only [sessionHead, encode_pair, encode_nil, List.append_nil, List.append_assoc]

/-! ## The commands -/

theorem readSessionCommand_refused (bad : data.length ≠ 1 ∨ 1 < (data.headD 0).toNat) :
    readSessionCommand data s = s.refuse .badArgument := by
  unfold readSessionCommand
  cases named : outletOf (field data 0 1) with
  | none => rfl
  | some x => exact if_pos (length_bad bad named)

theorem readSessionCommand_named (x : Outlet) : readSessionCommand [x.byte] s =
    if s.fitted x = false then s.refuse .outletAbsent else { state := s, status := .ok, data := s.sessionBytes x } := by
  unfold readSessionCommand
  rw [outletOf_byte]
  rfl

theorem readSettlementCommand_cons {e : SettlementRecord} {rest : List SettlementRecord} (h : s.sq.queue = e :: rest) :
    readSettlementCommand [] s =
      { state := s, status := .ok, data := bytesOf 1 (rest.length + 1) ++ e.record.bytes e.amount } := by
  unfold readSettlementCommand
  rw [if_neg (not_not_intro rfl), h]

theorem readSettlementCommand_nil (h : s.sq.queue = []) : readSettlementCommand [] s = s.refuse .empty := by
  unfold readSettlementCommand
  rw [if_neg (not_not_intro rfl), h]

/-- Settles O40: each answer by its layout. -/
theorem readingCommands : Obligations.ReadingCommands := by
  intro s data hfree
  have status (data : List Byte) : exec (.readStatus data) s = .next (answeredBy .readStatus (readStatusCommand data s)) := exec_row hfree rfl
  have settlement (data : List Byte) :
      exec (.readSettlement data) s = .next (answeredBy .readSettlement (readSettlementCommand data s)) := exec_row hfree rfl
  have view (data : List Byte) : exec (.readView data) s = .next (answeredBy .readView (readViewCommand data s)) := exec_row hfree rfl
  have session (data : List Byte) :
      exec (.readSession data) s = .next (answeredBy .readSession (readSessionCommand data s)) := exec_row hfree rfl
  refine ⟨fun bad => ⟨?_, ?_⟩, ⟨s.statusBytes, by rw [status]; rfl, ?_, ?_, ?_, ?_⟩, fun none => ?_, fun e rest he hauth => ?_, fun bad => ?_,
    fun first hfirst shown hshown => ?_, fun bad => ?_, fun x absent => ?_, fun x fitted => ?_⟩
  · rw [status, readStatusCommand, if_pos bad]; rfl
  · rw [settlement, readSettlementCommand, if_pos bad]; rfl
  · rw [State.statusBytes, List.length_append, List.length_append, length_station, length_outlet, length_outlet]
  · rw [State.statusBytes, List.append_assoc]; exact stationAt_bytes s _
  · rw [State.statusBytes, List.append_assoc]; exact outletAt_bytes s .a _ (length_station s)
  · have behind : (s.stationBytes ++ s.outletBytes .a).length = 60 := by rw [List.length_append, length_station, length_outlet]
    have all := outletAt_bytes s .b [] behind
    rwa [List.append_nil] at all
  · rw [settlement, readSettlementCommand_nil none]; rfl
  · refine ⟨_, by rw [settlement, readSettlementCommand_cons he]; rfl, ?_, ?_, recordAt_bytes e.record e.amount hauth (length_bytesOf 1 _)⟩
    · rw [List.length_append, length_bytesOf, length_record _ _ hauth]; omega
    · rw [he, List.length_cons]; exact carries_behind (front := []) rfl 1 _ _
  · rw [view, readViewCommand, if_pos (bad.imp_right fun h => by rw [headD_field]; exact h)]; rfl
  · have read : readViewCommand [first] s = { state := s, status := .ok, data := s.pv.bytes s.ownStation first.toNat } := by
      unfold readViewCommand
      rw [field_byte, if_neg (by simp; omega)]
    have bytes := view_bytes s.pv s.ownStation first.toNat hshown
    have toEntries : (encode (viewFields s.pv s.ownStation shown)).length = 7 := by rw [length_encode]; rfl
    obtain ⟨level, source, hold, haltSource, reason, peers, count, -⟩ := fieldsAt_front (viewFields s.pv s.ownStation shown)
      (encode (shown.flatMap entryFields))
    have entries := fieldsAt_flatMap (n := 12) entryFields (fun _ => rfl) shown [] toEntries
    rw [List.append_nil] at entries
    refine ⟨_, by rw [view, read, bytes]; rfl, ?_, level, hold, haltSource, reason, peers, count, fun e he => ?_, fun none => ?_,
      fun law some => ?_⟩
    · rw [List.length_append, toEntries, length_encode, length_entries]
    · obtain ⟨station, marks, age, weight, demand, ceiling, claim, draw, -⟩ := entries e he
      exact ⟨station, marks, age, weight, demand, ceiling, claim, draw⟩
    · rw [levelSource_eq, if_pos none] at source
      exact source
    · obtain ⟨e, he, same, least, rest⟩ := levelSource_lowest law some
      rw [same] at source
      exact ⟨e, he, source, least, rest⟩
  · rw [session, readSessionCommand_refused bad]; rfl
  · rw [session, readSessionCommand_named, if_pos absent]; rfl
  · have head : (encode (sessionHead (s.outlet x).sc)).length = 4 := by rw [length_encode]; rfl
    have bytes := session_bytes s x
    obtain ⟨state, marks, requested, -⟩ := fieldsAt_front (sessionHead (s.outlet x).sc)
      ((s.outlet x).sc.session.elim [] fun r => r.bytes (Machine.settledAmount r.total))
    refine ⟨_, by rw [session, readSessionCommand_named, if_neg (by rw [fitted]; decide), bytes]; rfl,
      ⟨_, state, by cases (s.outlet x).sc.state <;> rfl⟩, marks, requested, fun none => ?_, fun r hr hauth => ?_⟩
    · rw [none, List.length_append, head]; rfl
    · rw [hr, Option.elim_some, ← Tariffs.settledAmount_eq_add_half_div]
      refine ⟨?_, recordAt_bytes r _ hauth head⟩
      rw [List.length_append, head, length_record _ _ hauth]; omega

end

end Sys2Proof.Proofs.ReadingReports
end

section
/-! An energy delivery (R142, R143): the record it makes, and the stop by the limit or a cap. -/

namespace Sys2Proof.Proofs.Deliveries

open Machine OutletOperations OutletEvents Stopping OutletLaws OutletLawKept StopAndRestart StageEvents ContactorEvents PlugEvents SessionCommands

section
variable {s t : State} {x : Outlet} {r : SessionRecord}

/-! ## What an ordinary stop leaves (R138) -/

theorem quickStopped_state_over {reason : Nat} (h : QuickStopped s t x r reason) : (t.outlet x).sc.state.running = false := by
  obtain ⟨-, -, -, -, -, -, -, -, rest⟩ := h
  split at rest
  · obtain ⟨-, -, hs, -⟩ := rest; rw [hs]; rfl
  · obtain g | g := idle_or_vacant rest <;> rw [g] <;> rfl

/-- A stopped outlet is not running any more. -/
theorem ordinaryStopped_over {reason : Nat} (h : OrdinaryStopped s t x r reason) : (t.outlet x).sc.state.running = false := by
  unfold OrdinaryStopped at h
  split at h
  · exact quickStopped_state_over h
  · obtain ⟨-, -, -, -, -, -, -, -, -, -, -, -, hs, -⟩ := h
    rw [hs]; rfl

/-- What an ordinary stop leaves of an outlet whose metering window it does not close. -/
structure StillMetered (s t : State) (x : Outlet) (r : SessionRecord) (reason : Nat) : Prop where
  mu : (t.outlet x).mu = { (s.outlet x).mu with silenceTimer := false }
  session : (t.outlet x).sc.session = some { r with endReason := some reason }

theorem quickStopped_metered {reason : Nat} (h : QuickStopped s t x r reason)
    (going : (s.outlet x).sp.feedbackClosed = true ∨ (t.outlet x).mu.windowOpen = true) : StillMetered s t x r reason := by
  obtain ⟨-, -, -, -, -, -, -, -, rest⟩ := h
  split at rest
  · obtain ⟨-, -, -, -, session, mu, -⟩ := rest
    exact ⟨mu, session⟩
  · next feedback =>
    obtain ⟨-, -, -, left⟩ := rest
    split at left
    · obtain ⟨-, -, session, mu, -⟩ := left
      exact ⟨mu, session⟩
    · obtain ⟨-, -, -, mu⟩ := left
      rw [mu] at going
      exact absurd going (by simp [feedback])

/-- With the feedback closed, and wherever the window stays open, the meter unit's record is kept but for the silence timer. -/
theorem ordinaryStopped_metered {reason : Nat} (h : OrdinaryStopped s t x r reason)
    (going : (s.outlet x).sp.feedbackClosed = true ∨ (t.outlet x).mu.windowOpen = true) : StillMetered s t x r reason := by
  unfold OrdinaryStopped at h
  split at h
  · exact quickStopped_metered h going
  · obtain ⟨-, -, -, -, -, -, -, mu, -, -, -, -, -, -, session⟩ := h
    exact ⟨mu, session⟩

/-! ## The record of a delivery (R142) -/

/-- The band index and price that a delivery to the record is billed at. -/
def bandFor (s : State) (r : SessionRecord) (minute : Nat) : Nat × Nat :=
  ((s.ts.bank r.bank).tariff.map fun t => t.bandAt minute).getD (0, 0)

/-- The Wh of a delivery that fit under the energy limit. -/
def fitting (r : SessionRecord) (wh : Nat) : Nat := min wh (2000000 - r.billedWh)

/-- The record after a delivery. -/
def delivered (s : State) (r : SessionRecord) (wh minute : Nat) : SessionRecord :=
  if fitting r wh = 0 then r
  else r.addEnergy (bandFor s r minute).1 (fitting r wh) (bandFor s r minute).2

/-- The state with the outlet's session record replaced. -/
def withSession (s : State) (x : Outlet) (r : SessionRecord) : State := s.modSc x fun c => { c with session := some r }

theorem withSession_self (hr : (s.outlet x).sc.session = some r) : withSession s x r = s :=
  modSc_self _ (by rw [← hr])

theorem modSession_withSession (hr : (s.outlet x).sc.session = some r) (f : SessionRecord → SessionRecord) :
    s.modSession x f = withSession s x (f r) := by
  rw [modSession_some hr]; rfl

@[simp] theorem withSession_session : ((withSession s x r).outlet x).sc.session = some r := by simp [withSession]

@[simp] theorem withSession_state : ((withSession s x r).outlet x).sc.state = (s.outlet x).sc.state := by simp [withSession]

theorem delivered_keeps (s : State) (r : SessionRecord) (wh minute : Nat) : (delivered s r wh minute).id = r.id ∧
    (delivered s r wh minute).endReason = r.endReason ∧ (delivered s r wh minute).flags = r.flags ∧
    (delivered s r wh minute).billedWh = r.billedWh + fitting r wh := by
  unfold delivered
  split
  · next none => exact ⟨rfl, rfl, rfl, by rw [none]; rfl⟩
  · exact ⟨rfl, rfl, rfl, rfl⟩

/-- A delivery replaces the record, and the limit or the caps decide the rest. -/
theorem deliver_eq (hr : (s.outlet x).sc.session = some r) (wh minute : Nat) : s.deliver x wh minute =
    if 0 < fitting r wh ∧ 2000000 ≤ r.billedWh + fitting r wh ∧ (s.outlet x).sc.state.running = true then
      (withSession s x (delivered s r wh minute)).ordinaryStop x 132
    else (withSession s x (delivered s r wh minute)).testCaps x := by
  have limit : min wh (Config.energyLimit - r.billedWh) = fitting r wh := rfl
  unfold State.deliver
  rw [hr]
  dsimp only
  rw [limit, modSession_withSession hr]
  unfold delivered
  by_cases none : fitting r wh = 0
  · rw [if_pos none, if_pos none, if_neg (by omega), withSession_self hr]
  · rw [if_neg none, if_neg none]
    exact if_congr (by rw [and_iff_right (Nat.pos_of_ne_zero none)]) rfl rfl

/-- A capped record stops a running outlet; nothing else changes. -/
theorem testCaps_eq (hr : (s.outlet x).sc.session = some r) : s.testCaps x =
    if (s.outlet x).sc.state.running = true then r.capReached.elim s fun reason => s.ordinaryStop x reason else s := by
  unfold State.testCaps
  rw [hr, Option.bind_some]
  cases r.capReached <;> simp

theorem law_withSession (law : Law s) {r' : SessionRecord} (hr : (s.outlet x).sc.session = some r) (hid : r'.id = r.id)
    (hend : r'.endReason = r.endReason) : Law (withSession s x r') := by
  have replaced := modSession_withSession hr fun q => { r' with id := q.id, endReason := q.endReason }
  rw [← hid, ← hend] at replaced
  exact replaced ▸ law_modSession law _ (fun _ => rfl) fun _ => rfl

/-- What a delivery can do: replace the record, and stop the outlet. -/
theorem deliver_outcome (law : Law s) (hr : (s.outlet x).sc.session = some r) (wh minute : Nat) :
    s.deliver x wh minute = withSession s x (delivered s r wh minute) ∨
    (s.outlet x).sc.state.running = true ∧ ∃ reason,
      OrdinaryStopped (withSession s x (delivered s r wh minute)) (s.deliver x wh minute) x (delivered s r wh minute) reason := by
  obtain ⟨hid, hend, -⟩ := delivered_keeps s r wh minute
  have laws := law_withSession law hr hid hend
  rw [deliver_eq hr]
  generalize delivered s r wh minute = r' at *
  have stopped (running : (s.outlet x).sc.state.running = true) (reason : Nat) :
      OrdinaryStopped (withSession s x r') ((withSession s x r').ordinaryStop x reason) x r' reason := by
    rw [← withSession_state (r := r')] at running
    exact (ordinaryStop_spec reason (laws.inSession withSession_session (.inl running)) (not_closing_of_running running)).1
  split
  · next h => exact .inr ⟨h.2.2, _, stopped h.2.2 _⟩
  · rw [testCaps_eq withSession_session, withSession_state]
    split
    · next running =>
      cases r'.capReached with
      | none => exact .inl rfl
      | some reason => exact .inr ⟨running, _, stopped running _⟩
    · exact .inl rfl

/-- R143: the energy cap goes before the cost cap. -/
theorem capReached_eq (r : SessionRecord) : r.capReached =
    if 0 < r.energyCap ∧ r.energyCap ≤ r.billedWh then some 130
    else if 0 < r.costCap ∧ r.costCap * 10000 ≤ r.fee + (r.lines.map BandLine.cost).sum then some 131 else none := rfl

/-- Settles O23: the record of the delivery, and then the limit, the energy cap and the cost cap in this order. -/
theorem energyDelivery : Obligations.EnergyDelivery := by
  intro s x r r' b wh minute added law hbound hr hb hadded hr' u hu
  have laws := (outletLaw_iff s).1 law
  have band : bandFor s r minute = b.bandAt minute := by rw [bandFor, hb]; rfl
  have record : delivered s r wh minute = r' := by rw [delivered, band, hr', hadded]; rfl
  have fits : fitting r wh = added := hadded.symm
  have replaced : withSession s x r' = u := hu.symm
  obtain ⟨hid, hend, -, hwh⟩ := delivered_keeps s r wh minute
  rw [record] at hid hend hwh
  have session : (u.outlet x).sc.session = some r' := by rw [← replaced]; exact withSession_session
  have state : (u.outlet x).sc.state = (s.outlet x).sc.state := by rw [← replaced]; exact withSession_state
  have lawU : Law u := replaced ▸ law_withSession laws hr hid hend
  have stopped (running : (s.outlet x).sc.state.running = true) (reason : Nat) : OrdinaryStopped u (u.ordinaryStop x reason) x r' reason := by
    rw [← state] at running
    exact (ordinaryStop_spec reason (lawU.inSession session (.inl running)) (not_closing_of_running running)).1
  have le : added ≤ 2000000 - r.billedWh := by rw [hadded]; exact Nat.min_le_right _ _
  rw [deliver_eq hr, record, replaced, fits, testCaps_eq session, state, capReached_eq]
  by_cases running : (s.outlet x).sc.state.running = true
  · rw [if_pos running, if_pos running]
    by_cases limit : 0 < added ∧ r.billedWh + added = 2000000
    · rw [if_pos limit, if_pos ⟨limit.1, by omega, running⟩]
      exact stopped running 132
    · have below : ¬ (0 < added ∧ 2000000 ≤ r.billedWh + added ∧ (s.outlet x).sc.state.running = true) := fun g => limit ⟨g.1, by omega⟩
      have sameCap : r'.energyCap = r.energyCap ∧ r'.costCap = r.costCap := by rw [hr']; split <;> exact ⟨rfl, rfl⟩
      rw [if_neg limit, if_neg below, sameCap.1, sameCap.2]
      by_cases energy : 0 < r.energyCap ∧ r.energyCap ≤ r'.billedWh
      · rw [if_pos energy, if_pos energy]
        exact stopped running 130
      · rw [if_neg energy, if_neg energy]
        by_cases cost : 0 < r.costCap ∧ r.costCap * 10000 ≤ r'.fee + (r'.lines.map BandLine.cost).sum
        · rw [if_pos cost, if_pos cost]
          exact stopped running 131
        · rw [if_neg cost, if_neg cost]
          rfl
  · rw [if_neg running, if_neg running, if_neg fun g => running g.2.2]

end

end Sys2Proof.Proofs.Deliveries
end

section
/-! A SAMPLE (R89, R109 to R113, R119): its power, the record it makes, the Wh it carries, and the overdraw test. -/

namespace Sys2Proof.Proofs.Samples

open Machine OutletOperations OutletEvents Stopping OutletLaws OutletLawKept StopAndRestart PlugEvents OutletLawSteps Deliveries

section
variable {s t : State} {x : Outlet} {r : SessionRecord}

/-! ## The fields of a sample (R89, R109) -/

theorem readField_eq (fullScale raw : Nat) (saturated : Bool) :
    readField fullScale raw saturated = (if saturated = true then fullScale else min raw fullScale, saturated || decide (fullScale < raw)) := by
  unfold readField
  cases saturated
  · by_cases above : fullScale < raw
    · simp [above, Nat.min_eq_right above.le]
    · simp [above, Nat.min_eq_left (Nat.not_lt.1 above)]
  · rfl

/-- A field of the sample is at its clamp. -/
def clamped (v i : BitVec 16) (vs is : Bool) : Bool := (vs || decide (10000 < v.toNat)) || (is || decide (6000 < i.toNat))

theorem exec_sample (h : s.fitted x = true) (v i : BitVec 16) (vs is : Bool) : exec (.sample x v i vs is) s = .next
    (s.meterSample x (if vs = true then 10000 else min v.toNat 10000) (if is = true then 6000 else min i.toNat 6000) (clamped v i vs is)) := by
  show execSample x v i vs is s = _
  unfold execSample
  rw [if_pos h, readField_eq, readField_eq]
  rfl

theorem samplePower_le (v i : BitVec 16) (vs is : Bool) : samplePower v i vs is ≤ 60000000 := by
  have voltage : (if vs = true then 10000 else min v.toNat 10000) ≤ 10000 := by split <;> omega
  have current : (if is = true then 6000 else min i.toNat 6000) ≤ 6000 := by split <;> omega
  exact Nat.mul_le_mul voltage current

/-! ## The overdraw test (R119) -/

theorem testOverdraw_idle (p inForce : Nat) : s.testOverdraw x p inForce false = s.modMu x fun m => { m with overdraw := 0 } :=
  if_neg fun g => by cases g.2.2

theorem testOverdraw_eq (p inForce : Nat) : s.testOverdraw x p inForce true =
    if (s.outlet x).sc.state = .energising ∧ (inForce + (s.cf.config.map Configuration.tolerance).getD 0) * 10000 < p then
      if (s.outlet x).mu.overdraw < 19 then s.modMu x fun m => { m with overdraw := m.overdraw + 1 }
      else (s.modMu x fun m => { m with overdraw := 0 }).ordinaryStop x 133
    else s.modMu x fun m => { m with overdraw := 0 } :=
  if_congr ⟨fun h => ⟨h.2.1, h.1⟩, fun h => ⟨h.2, h.1, rfl⟩⟩ rfl rfl

/-- In ENERGISING the feedback reads closed. -/
theorem energising_feedback (law : Law s) (hs : (s.outlet x).sc.state = .energising) : (s.outlet x).sp.feedbackClosed = true := by
  have fits := (law.fits x).contactor
  obtain ⟨-, -, -, -, closed, -⟩ := (law.fits x).1
  rw [hs] at fits
  cases hc : (s.outlet x).sp.contactor with
  | closed => exact closed (.inl hc)
  | _ => rw [hc] at fits; cases fits

/-- The stop of the twentieth exceeding sample. -/
theorem overdraw_stopped (law : Law s) (hs : (s.outlet x).sc.state = .energising) (hr : (s.outlet x).sc.session = some r) :
    OrdinaryStopped (s.modMu x fun m => { m with overdraw := 0 }) ((s.modMu x fun m => { m with overdraw := 0 }).ordinaryStop x 133) x r 133 := by
  have cleared : Law (s.modMu x fun m => { m with overdraw := 0 }) := law_modMu law _
  have state : ((s.modMu x fun m => { m with overdraw := 0 }).outlet x).sc.state = .energising := by rw [State.modMu_sc]; exact hs
  exact (ordinaryStop_spec 133 (cleared.inSession (by rw [State.modMu_sc]; exact hr) (.inl (by rw [state]; rfl)))
    (by rw [state]; decide)).1

/-! ## What the later steps of a sample keep -/

/-- The figures of a sample that its later steps keep: the sums, the residue and the session's bill. -/
structure Kept (s t : State) (x : Outlet) (r : SessionRecord) : Prop where
  residue : (t.outlet x).mu.residue = (s.outlet x).mu.residue
  powerSum : (t.outlet x).mu.powerSum = (s.outlet x).mu.powerSum
  sampleCount : (t.outlet x).mu.sampleCount = (s.outlet x).mu.sampleCount
  windowSample : (t.outlet x).mu.windowSample = (s.outlet x).mu.windowSample
  session : ∃ q, (t.outlet x).sc.session = some q ∧ q.id = r.id ∧ q.billedWh = r.billedWh ∧ q.flags = r.flags

theorem kept_of_metered {reason : Nat} (h : StillMetered s t x r reason) : Kept s t x r :=
  ⟨by rw [h.mu], by rw [h.mu], by rw [h.mu], by rw [h.mu], _, h.session, rfl, rfl, rfl⟩

theorem testOverdraw_kept (law : Law s) (hr : (s.outlet x).sc.session = some r) (p inForce : Nat) :
    Kept s (s.testOverdraw x p inForce true) x r := by
  have counted (n : Nat → Nat) : Kept s (s.modMu x fun m => { m with overdraw := n m.overdraw }) x r := by
    refine ⟨?_, ?_, ?_, ?_, r, by rw [State.modMu_sc]; exact hr, rfl, rfl, rfl⟩ <;> rw [State.modMu_same]
  rw [testOverdraw_eq]
  split
  · next h =>
    split
    · exact counted (· + 1)
    · have stopped := overdraw_stopped law h.1 hr
      have closed : ((s.modMu x fun m => { m with overdraw := 0 }).outlet x).sp.feedbackClosed = true := by
        rw [State.modMu_sp]; exact energising_feedback law h.1
      obtain ⟨residue, powerSum, sampleCount, windowSample, session⟩ := kept_of_metered (ordinaryStopped_metered stopped (.inl closed))
      rw [State.modMu_same] at residue powerSum sampleCount windowSample
      exact ⟨residue, powerSum, sampleCount, windowSample, session⟩
  · exact counted fun _ => 0

/-! ## The Wh carried (R112, R113) -/

theorem handCarry_eq (wh : Nat) : s.handCarry x wh = if wh = 0 then s
    else if s.cf.straps.source = .sample then s.deliver x wh (s.cf.second / 60)
    else s.modMu x fun m => { m with windowSample := m.windowSample + wh } := by
  unfold State.handCarry
  split
  · rfl
  · cases s.cf.straps.source <;> rfl

/-- What the carried Wh make of the sums and the bill. -/
structure Carried (s t : State) (x : Outlet) (r : SessionRecord) (wh : Nat) : Prop where
  residue : (t.outlet x).mu.residue = (s.outlet x).mu.residue
  powerSum : (t.outlet x).mu.powerSum = (s.outlet x).mu.powerSum
  sampleCount : (t.outlet x).mu.sampleCount = (s.outlet x).mu.sampleCount
  windowSample : (t.outlet x).mu.windowSample = (s.outlet x).mu.windowSample + if s.cf.straps.source = .pulse then wh else 0
  session : ∃ q, (t.outlet x).sc.session = some q ∧ q.id = r.id ∧
    q.billedWh = (if s.cf.straps.source = .pulse then r.billedWh else r.billedWh + fitting r wh) ∧ q.flags = r.flags

theorem deliver_kept (law : Law s) (hr : (s.outlet x).sc.session = some r) (feedback : (s.outlet x).sp.feedbackClosed = true)
    (wh minute : Nat) : Kept s (s.deliver x wh minute) x (delivered s r wh minute) := by
  have mu : ((withSession s x (delivered s r wh minute)).outlet x).mu = (s.outlet x).mu := by simp [withSession]
  obtain same | ⟨-, reason, stopped⟩ := deliver_outcome law hr wh minute
  · rw [same]
    exact ⟨by rw [mu], by rw [mu], by rw [mu], by rw [mu], _, withSession_session, rfl, rfl, rfl⟩
  · have closed : ((withSession s x (delivered s r wh minute)).outlet x).sp.feedbackClosed = true := by simp [withSession, feedback]
    obtain ⟨residue, powerSum, sampleCount, windowSample, session⟩ := kept_of_metered (ordinaryStopped_metered stopped (.inl closed))
    rw [mu] at residue powerSum sampleCount windowSample
    exact ⟨residue, powerSum, sampleCount, windowSample, session⟩

theorem handCarry_carried (law : Law s) (hr : (s.outlet x).sc.session = some r) (feedback : (s.outlet x).sp.feedbackClosed = true)
    (wh : Nat) : Carried s (s.handCarry x wh) x r wh := by
  rw [handCarry_eq]
  split
  · next none =>
    subst none
    exact ⟨rfl, rfl, rfl, by split <;> rfl, r, hr, rfl, by rw [fitting, Nat.zero_min]; split <;> rfl, rfl⟩
  · split
    · next source =>
      obtain ⟨residue, powerSum, sampleCount, windowSample, q, hq, hid, hwh, hflags⟩ := deliver_kept law hr feedback wh (s.cf.second / 60)
      obtain ⟨id, -, flags, billed⟩ := delivered_keeps s r wh (s.cf.second / 60)
      have sample : ¬ s.cf.straps.source = .pulse := by rw [source]; decide
      exact ⟨residue, powerSum, sampleCount, by rw [windowSample, if_neg sample]; rfl, q, hq, hid.trans id,
        by rw [if_neg sample, hwh, billed], hflags.trans flags⟩
    · next source =>
      have pulse : s.cf.straps.source = .pulse := by cases h : s.cf.straps.source <;> simp_all
      refine ⟨?_, ?_, ?_, ?_, r, by rw [State.modMu_sc]; exact hr, rfl, by rw [if_pos pulse], rfl⟩ <;> rw [State.modMu_same]
      rw [if_pos pulse]

/-- A delivery that leaves the outlet ENERGISING leaves its overdraw count. -/
theorem handCarry_overdraw (law : Law s) (hr : (s.outlet x).sc.session = some r) {wh : Nat}
    (h : ((s.handCarry x wh).outlet x).sc.state = .energising) : ((s.handCarry x wh).outlet x).mu.overdraw = (s.outlet x).mu.overdraw := by
  rw [handCarry_eq] at h ⊢
  split
  · rfl
  · next some =>
    rw [if_neg some] at h
    split
    · next source =>
      rw [if_pos source] at h
      obtain same | ⟨-, reason, stopped⟩ := deliver_outcome law hr wh (s.cf.second / 60)
      · rw [same]; simp [withSession]
      · have ended := ordinaryStopped_over stopped
        rw [h] at ended
        cases ended
    · rw [State.modMu_same]

/-! ## A counting sample (R110, R111) -/

/-- The state once the sample has entered the sums and the residue, with METER_CLAMPED. -/
def entered (s : State) (x : Outlet) (r : SessionRecord) (p : Nat) (saturated : Bool) : State :=
  (s.modMu x fun m => { m with
    powerSum := m.powerSum + p, sampleCount := m.sampleCount + 1, residue := (m.residue + p) % 36000000 }).modSc x fun c =>
      { c with session := some { r with flags := { r.flags with meterClamped := r.flags.meterClamped || saturated } } }

theorem meterSample_idle (h : (s.outlet x).mu.windowOpen = false ∨ (s.outlet x).sp.feedbackClosed = false) (v i : Nat) (saturated : Bool) :
    s.meterSample x v i saturated =
      s.modMu x fun m => { m with powerSum := m.powerSum + v * i, sampleCount := m.sampleCount + 1, overdraw := 0 } := by
  have counting : ((s.outlet x).mu.windowOpen && (s.outlet x).sp.feedbackClosed) = false := by
    obtain h | h := h <;> rw [h] <;> simp
  unfold State.meterSample
  dsimp only
  rw [counting, if_neg (by decide), testOverdraw_idle, modMu_modMu]

theorem meterSample_counting (window : (s.outlet x).mu.windowOpen = true) (feedback : (s.outlet x).sp.feedbackClosed = true)
    (hr : (s.outlet x).sc.session = some r) (v i : Nat) (saturated : Bool) : s.meterSample x v i saturated =
      ((entered s x r (v * i) saturated).handCarry x (((s.outlet x).mu.residue + v * i) / 36000000)).testOverdraw x (v * i)
        (s.outlet x).sp.inForce true := by
  have shape : (if saturated = true then (s.modMu x fun m =>
        { m with powerSum := m.powerSum + v * i, sampleCount := m.sampleCount + 1 }).modFlags x fun f => { f with meterClamped := true }
      else s.modMu x fun m => { m with powerSum := m.powerSum + v * i, sampleCount := m.sampleCount + 1 }).modMu x
        (fun m => { m with residue := ((s.outlet x).mu.residue + v * i) % 36000000 }) = entered s x r (v * i) saturated := by
    have before : ((s.modMu x fun m => { m with powerSum := m.powerSum + v * i, sampleCount := m.sampleCount + 1 }).outlet x).sc.session =
        some r := by rw [State.modMu_sc]; exact hr
    unfold entered
    cases saturated
    · have same := withSession_self (s := s.modMu x fun m => { m with
        powerSum := m.powerSum + v * i, sampleCount := m.sampleCount + 1, residue := (m.residue + v * i) % 36000000 })
        (x := x) (r := r) (by rw [State.modMu_sc]; exact hr)
      rw [if_neg (by decide), Bool.or_false]
      refine Eq.trans ?_ same.symm
      cases x <;> rfl
    · rw [if_pos rfl, Bool.or_true, State.modFlags, modSession_withSession before]
      cases x <;> rfl
  unfold State.meterSample
  dsimp only
  rw [window, feedback, if_pos (by decide), ← shape]
  rfl

theorem entered_mu (p : Nat) (saturated : Bool) : ((entered s x r p saturated).outlet x).mu = { (s.outlet x).mu with
    powerSum := (s.outlet x).mu.powerSum + p, sampleCount := (s.outlet x).mu.sampleCount + 1
    residue := ((s.outlet x).mu.residue + p) % 36000000 } := by
  rw [entered, State.modSc_mu, State.modMu_same]

theorem law_entered (law : Law s) (hr : (s.outlet x).sc.session = some r) (p : Nat) (saturated : Bool) : Law (entered s x r p saturated) := by
  have summed : Law (s.modMu x fun m => { m with
    powerSum := m.powerSum + p, sampleCount := m.sampleCount + 1, residue := (m.residue + p) % 36000000 }) := law_modMu law _
  exact law_withSession (r := r) summed (by rw [State.modMu_sc]; exact hr) rfl rfl

/-- Settles O21: a sample that does not count enters the sums alone, and one that does splits into residue and Wh. -/
theorem sampleMetering : Obligations.SampleMetering := by
  intro s x v i vs is p hp
  refine ⟨fun absent => if_neg (by rw [absent]; decide), fun fitted => ⟨fun idle => ?_, fun law bill low window feedback => ?_⟩⟩
  · rw [exec_sample fitted, meterSample_idle idle, hp]
    rfl
  have laws := (outletLaw_iff s).1 law
  obtain ⟨r, hr⟩ := Option.isSome_iff_exists.1 ((laws.fits x).window.symm.trans window)
  have power := samplePower_le v i vs is
  rw [← hp] at power
  have counting := meterSample_counting window feedback hr (if vs = true then 10000 else min v.toNat 10000)
    (if is = true then 6000 else min i.toNat 6000) (clamped v i vs is)
  have product : (if vs = true then 10000 else min v.toNat 10000) * (if is = true then 6000 else min i.toNat 6000) = p := hp.symm
  rw [product] at counting
  generalize hu : entered s x r p (clamped v i vs is) = u at counting
  have mu := entered_mu (s := s) (x := x) (r := r) p (clamped v i vs is)
  have lawU := law_entered laws hr p (clamped v i vs is)
  have session : (u.outlet x).sc.session =
      some { r with flags := { r.flags with meterClamped := r.flags.meterClamped || clamped v i vs is } } := by rw [← hu]; simp [entered]
  have closed : (u.outlet x).sp.feedbackClosed = true := by rw [← hu]; simp [entered, feedback]
  have source : u.cf = s.cf := by rw [← hu]; simp [entered]
  rw [hu] at mu lawU
  generalize hwh : ((s.outlet x).mu.residue + p) / 36000000 = wh at counting
  have carried := handCarry_carried lawU session closed wh
  obtain ⟨q, hq, qid, qwh, qflags⟩ := carried.session
  have kept := testOverdraw_kept (law_handCarry lawU wh) hq p (s.outlet x).sp.inForce
  obtain ⟨q', hq', id', wh', flags'⟩ := kept.session
  have residue : (((u.handCarry x wh).testOverdraw x p (s.outlet x).sp.inForce true).outlet x).mu.residue =
      ((s.outlet x).mu.residue + p) % 36000000 := by rw [kept.residue, carried.residue, mu]
  have billed : r.billedWh ≤ 2000000 := by
    obtain ⟨-, -, -, lines, -⟩ := bill
    have open_ : r ∈ s.openSessions := by
      unfold State.openSessions
      cases x
      · exact List.mem_append_left _ (by rw [show s.outA.sc.session = some r from hr]; simp)
      · exact List.mem_append_right _ (by rw [show s.outB.sc.session = some r from hr]; simp)
    obtain ⟨⟨-, -, -, le⟩, -⟩ := lines r open_
    exact le
  refine ⟨_, wh, by rw [exec_sample fitted, counting], ?_, ?_, ?_, by omega, ?_, ?_, ?_, fun r' hr' => ?_⟩
  · have work := meterSample_work s x (if vs = true then 10000 else min v.toNat 10000) (if is = true then 6000 else min i.toNat 6000)
      (clamped v i vs is)
    rw [counting] at work
    exact work.onlyOutlet
  · rw [residue, ← hwh]; exact Nat.div_add_mod _ _
  · rw [residue]; exact Nat.mod_lt _ (by decide)
  · rw [kept.powerSum, carried.powerSum, mu]
  · rw [kept.sampleCount, carried.sampleCount, mu]
  · rw [kept.windowSample, carried.windowSample, mu, source]
  · cases hr.symm.trans hr'
    refine ⟨q', hq', id'.trans qid, ?_, ?_⟩
    · rw [wh', qwh, source]
      refine if_congr Iff.rfl rfl ?_
      show r.billedWh + min wh (2000000 - r.billedWh) = _
      omega
    · rw [flags', qflags]
      show (r.flags.meterClamped || clamped v i vs is) = true ↔ _
      simp only [clamped, Bool.or_eq_true, decide_eq_true_eq, or_assoc]
      exact or_congr_right (or_congr_right or_left_comm)

/-- Settles O22: the later steps of a sample of an ENERGISING outlet, up to the twentieth exceeding one. -/
theorem overdraw : Obligations.Overdraw := by
  intro s x v i vs is p wh k r hp law fitted hk hs hr hwh u hu d hd
  have laws := (outletLaw_iff s).1 law
  have feedback := energising_feedback laws hs
  have window : (s.outlet x).mu.windowOpen = true := by rw [(laws.fits x).window, hr]; rfl
  have counting := meterSample_counting window feedback hr (if vs = true then 10000 else min v.toNat 10000)
    (if is = true then 6000 else min i.toNat 6000) (clamped v i vs is)
  have product : (if vs = true then 10000 else min v.toNat 10000) * (if is = true then 6000 else min i.toNat 6000) = p := hp.symm
  rw [product, ← hwh] at counting
  have before : entered s x r p (clamped v i vs is) = u := by
    rw [hu, entered, clamped]
    have flag : (r.flags.meterClamped || (vs || decide (10000 < v.toNat) || (is || decide (6000 < i.toNat)))) =
        (r.flags.meterClamped || vs || is || decide (10000 < v.toNat) || decide (6000 < i.toNat)) := by
      cases r.flags.meterClamped <;> cases vs <;> cases is <;> simp
    rw [flag]
  have source : u.cf = s.cf := by rw [hu]; simp
  have carried : u.handCarry x wh = d := by rw [handCarry_eq, hd, source]
  rw [before, carried] at counting
  have run : exec (.sample x v i vs is) s = .next (d.testOverdraw x p (s.outlet x).sp.inForce true) := by rw [exec_sample fitted, counting]
  have tolerance : (d.cf.config.map Configuration.tolerance).getD 0 = k.tolerance := by
    rw [← carried, (handCarry_work u x wh).cf, source, hk]; rfl
  have lawU : Law u := before ▸ law_entered laws hr p _
  have session : (u.outlet x).sc.session =
      some { r with flags := { r.flags with meterClamped := r.flags.meterClamped || clamped v i vs is } } := by
    rw [← before]; simp [entered]
  rw [run, testOverdraw_eq, tolerance]
  split
  · next h =>
    have same : (u.outlet x).mu.overdraw = (s.outlet x).mu.overdraw := by rw [← before, entered_mu]
    have count : (d.outlet x).mu.overdraw = (s.outlet x).mu.overdraw := by
      rw [← same, ← carried]
      exact handCarry_overdraw lawU session (by rw [carried]; exact h.1)
    rw [count]
    split
    · rw [← count]
      cases x <;> rfl
    · intro z hz r' hr'
      rw [hz]
      exact ⟨_, rfl, overdraw_stopped (carried ▸ law_handCarry lawU wh) h.1 hr'⟩
  · rfl

end

end Sys2Proof.Proofs.Samples
end

section
/-! Meter pulses (R113 to R116): the pulse's delivery, and the cross-check window. -/

namespace Sys2Proof.Proofs.Pulses

open Machine OutletOperations OutletEvents Stopping OutletLaws OutletLawKept StopAndRestart PlugEvents OutletLawSteps Deliveries

section
variable {s t : State} {x : Outlet} {r : SessionRecord}

/-! ## The events -/

theorem exec_meterPulse_ignored (h : s.cf.straps.source = .sample ∨ s.fitted x = false ∨ (s.outlet x).mu.pulseAsserted = true) :
    exec (.meterPulse x) s = .next s := by
  refine if_neg fun g => ?_
  obtain ⟨source, fitted, released⟩ := g
  obtain h | h | h := h
  · rw [h] at source; cases source
  · rw [h] at fitted; cases fitted
  · rw [h] at released; cases released

theorem exec_pulseInputReleased_ignored (h : s.cf.straps.source = .sample ∨ s.fitted x = false) :
    exec (.pulseInputReleased x) s = .next s := by
  refine if_neg fun g => ?_
  obtain ⟨source, fitted⟩ := g
  obtain h | h := h
  · rw [h] at source; cases source
  · rw [h] at fitted; cases fitted

/-- A pulse that is taken: under PULSE, on a fitted outlet, from a released input (R114). -/
structure Taken (s : State) (x : Outlet) : Prop where
  source : s.cf.straps.source = .pulse
  fitted : s.fitted x = true
  released : (s.outlet x).mu.pulseAsserted = false

/-- The state with the pulse input asserted. -/
def asserted (s : State) (x : Outlet) : State := s.modMu x fun m => { m with pulseAsserted := true }

theorem exec_meterPulse_closed (h : Taken s x) (window : (s.outlet x).mu.windowOpen = false) :
    exec (.meterPulse x) s = .next (asserted s x) := by
  show execMeterPulse x s = _
  unfold execMeterPulse
  rw [if_pos ⟨h.source, h.fitted, h.released⟩]
  dsimp only
  cases s.cf.config with
  | none => rfl
  | some k => exact if_neg (by rw [window]; decide)

theorem exec_meterPulse_open (h : Taken s x) {k : Configuration} (hk : s.cf.config = some k)
    (window : (s.outlet x).mu.windowOpen = true) {v : State} (hv : v = (asserted s x).deliver x k.pulseWeight (s.cf.second / 60)) :
    exec (.meterPulse x) s = .next (if (v.outlet x).mu.windowOpen = true then v.countPulse x k.pulseWeight else v) := by
  show execMeterPulse x s = _
  unfold execMeterPulse
  rw [if_pos ⟨h.source, h.fitted, h.released⟩, hk]
  dsimp only
  rw [if_pos window]
  have same : (s.modMu x fun m => { m with pulseAsserted := true }).deliver x k.pulseWeight s.minute = v := hv.symm
  rw [same]
  split <;> rfl

/-! ## The cross-check window (R115, R116) -/

theorem modMu_congr {f g : MeterOutlet → MeterOutlet} (h : f (s.outlet x).mu = g (s.outlet x).mu) : s.modMu x f = s.modMu x g := by
  rw [State.modMu, State.modMu, h]

/-- The window closed with a disagree count. -/
def windowClosed (s : State) (x : Outlet) (n : Nat) : State :=
  s.modMu x fun m => { m with windowPulse := 0, windowSample := 0, disagree := n }

theorem countPulse_below {weight : Nat} (h : (s.outlet x).mu.windowPulse + weight < 1000) :
    s.countPulse x weight = s.modMu x fun m => { m with windowPulse := (s.outlet x).mu.windowPulse + weight } := by
  refine (if_neg ?_).trans (modMu_congr rfl)
  rw [State.modMu_same]
  exact Nat.not_le.2 h

theorem countPulse_full {weight : Nat} (h : 1000 ≤ (s.outlet x).mu.windowPulse + weight) : s.countPulse x weight =
    if (s.outlet x).mu.windowSample ≤ 1050 ∧ 950 ≤ (s.outlet x).mu.windowSample then windowClosed s x 0
    else if (s.outlet x).mu.disagree < 2 then windowClosed s x ((s.outlet x).mu.disagree + 1)
    else ((windowClosed s x 0).modFlags x fun f => { f with meterDisagree := true }).raise .meter := by
  have closed (n : Nat) : ((s.modMu x fun m => { m with windowPulse := m.windowPulse + weight }).modMu x fun m =>
      { m with windowPulse := 0, windowSample := 0, disagree := n }) = windowClosed s x n := modMu_modMu s x _ _
  unfold State.countPulse
  dsimp only
  rw [State.modMu_same, if_pos (show Config.windowWh ≤ (s.outlet x).mu.windowPulse + weight from h)]
  unfold State.closeCrossCheck
  dsimp only
  rw [State.modMu_same, closed, closed]
  exact if_congr (and_congr_right fun _ => (by omega :
    1000 ≤ (s.outlet x).mu.windowSample + 50 ↔ 950 ≤ (s.outlet x).mu.windowSample)) rfl rfl

/-- The window's figures are those before the delivery, unless the delivery has closed the window. -/
theorem deliver_window (law : Law s) (hr : (s.outlet x).sc.session = some r) {wh minute : Nat}
    (going : ((s.deliver x wh minute).outlet x).mu.windowOpen = true) :
    ((s.deliver x wh minute).outlet x).mu.windowPulse = (s.outlet x).mu.windowPulse ∧
    ((s.deliver x wh minute).outlet x).mu.windowSample = (s.outlet x).mu.windowSample ∧
    ((s.deliver x wh minute).outlet x).mu.disagree = (s.outlet x).mu.disagree := by
  have mu : ((withSession s x (delivered s r wh minute)).outlet x).mu = (s.outlet x).mu := by simp [withSession]
  obtain same | ⟨-, reason, stopped⟩ := deliver_outcome law hr wh minute
  · rw [same, mu]; exact ⟨rfl, rfl, rfl⟩
  · rw [(ordinaryStopped_metered stopped (.inr going)).mu, mu]; exact ⟨rfl, rfl, rfl⟩

theorem law_asserted (law : Law s) : Law (asserted s x) := law_modMu law _

theorem asserted_session : ((asserted s x).outlet x).sc = (s.outlet x).sc := State.modMu_sc ..

theorem raise_meter (s : State) : s.raise .meter = { s with pk := { s.pk with edge := s.pk.edge ||| 0x80 } } := by
  simp [State.raise, Cause.index, BitVec.twoPow]

/-! ## A plain pulse -/

/-- What counting leaves of an outlet whose session record has been replaced. -/
theorem counted_frame (f g : MeterOutlet → MeterOutlet) (q : SessionRecord) :
    let w := (withSession (s.modMu x f) x q).modMu x g
    w.sq = s.sq ∧ w.ts = s.ts ∧ w.stageTx = s.stageTx ∧ w.pk = s.pk ∧ (w.outlet x).sp = (s.outlet x).sp ∧
    (w.outlet x).sc = { (s.outlet x).sc with session := some q } ∧ (w.outlet x).mu = g (f (s.outlet x).mu) := by
  simp [withSession]

/-- METER_DISAGREE set and METER raised: the record's flag and the cause. -/
theorem flagged_frame {q : SessionRecord} (hq : (s.outlet x).sc.session = some q) :
    let w := (s.modFlags x fun f => { f with meterDisagree := true }).raise .meter
    w.sq = s.sq ∧ w.ts = s.ts ∧ w.stageTx = s.stageTx ∧ w.pk = { s.pk with edge := s.pk.edge ||| 0x80 } ∧
    (w.outlet x).sp = (s.outlet x).sp ∧ (w.outlet x).sc.state = (s.outlet x).sc.state ∧
    (w.outlet x).sc.session = some { q with flags := { q.flags with meterDisagree := true } } ∧ (w.outlet x).mu = (s.outlet x).mu := by
  have pk : (s.modFlags x fun f => { f with meterDisagree := true }).pk = s.pk := by simp
  refine ⟨by simp, by simp, by simp, ?_, by simp, by simp, ?_, by simp⟩
  · rw [raise_meter, pk]
  · rw [State.raise_outlet, modFlags_sc, hq]; rfl

/-- A delivery that fits under the limit to a record without caps replaces the record, and does nothing else. -/
theorem deliver_plain (hr : (s.outlet x).sc.session = some r) {wh : Nat} (limit : r.billedWh + wh < 2000000) (energy : r.energyCap = 0)
    (cost : r.costCap = 0) (minute : Nat) : s.deliver x wh minute = withSession s x (delivered s r wh minute) ∧
      (delivered s r wh minute).billedWh = r.billedWh + wh ∧ (delivered s r wh minute).flags = r.flags := by
  obtain ⟨-, -, flags, billed⟩ := delivered_keeps s r wh minute
  have fits : fitting r wh = wh := Nat.min_eq_left (by omega)
  have caps : (delivered s r wh minute).energyCap = 0 ∧ (delivered s r wh minute).costCap = 0 := by
    unfold delivered
    split <;> exact ⟨energy, cost⟩
  have cap : (delivered s r wh minute).capReached = none := by
    rw [capReached_eq, caps.1, caps.2]; rfl
  refine ⟨?_, by rw [billed, fits], flags⟩
  rw [deliver_eq hr, fits, if_neg (by omega), testCaps_eq withSession_session, cap]
  exact ite_self _

/-- Settles O24: the pulse that is not taken, the pulse with the window closed, and the pulse counted in the window. -/
theorem meterPulses : Obligations.MeterPulses := by
  intro s x
  refine ⟨fun h => ⟨exec_meterPulse_ignored (h.imp_right .inl), exec_pulseInputReleased_ignored h⟩,
    fun h => exec_meterPulse_ignored (.inr (.inr h)), fun source fitted => ⟨if_pos ⟨source, fitted⟩, fun released => ?_⟩⟩
  have taken : Taken s x := ⟨source, fitted, released⟩
  refine ⟨exec_meterPulse_closed taken, fun k v hk window below law hv => ?_, fun k v hk window full law hv z hz => ?_,
    fun k r hk hr law limit energy cost weight => ?_⟩
  · have hv : v = (asserted s x).deliver x k.pulseWeight (s.cf.second / 60) := hv
    have laws := (outletLaw_iff s).1 law
    obtain ⟨r, hr⟩ := Option.isSome_iff_exists.1 ((laws.fits x).window.symm.trans window)
    rw [exec_meterPulse_open taken hk window hv]
    split
    · next going =>
      obtain ⟨pulse, -⟩ := deliver_window (law_asserted laws) (by rw [asserted_session]; exact hr) (hv ▸ going)
      rw [← hv] at pulse
      have same : (v.outlet x).mu.windowPulse = (s.outlet x).mu.windowPulse := by rw [pulse, asserted, State.modMu_same]
      rw [countPulse_below (by rw [same]; exact below), same]
    · rfl
  · have hv : v = (asserted s x).deliver x k.pulseWeight (s.cf.second / 60) := hv
    have laws := (outletLaw_iff s).1 law
    obtain ⟨r, hr⟩ := Option.isSome_iff_exists.1 ((laws.fits x).window.symm.trans window)
    rw [exec_meterPulse_open taken hk window hv]
    split
    · next closed => rw [if_neg (by rw [closed]; decide)]
    · next going =>
      have going : (v.outlet x).mu.windowOpen = true := Bool.eq_true_of_not_eq_false going
      obtain ⟨pulse, sample, disagree⟩ := deliver_window (law_asserted laws) (by rw [asserted_session]; exact hr) (hv ▸ going)
      rw [← hv, asserted, State.modMu_same] at pulse sample disagree
      dsimp only at pulse sample disagree
      rw [if_pos going, countPulse_full (by rw [pulse]; exact full), sample, disagree]
      have closed (n : Nat) : windowClosed v x n = z n := (hz n).symm
      rw [closed, closed, raise_meter]
      split
      · rfl
      · split
        · rfl
        · refine congrArg Host.Outcome.next ?_
          rw [hz]
          cases x <;> rfl
  · have laws := (outletLaw_iff s).1 law
    have window : (s.outlet x).mu.windowOpen = true := by rw [(laws.fits x).window, hr]; rfl
    obtain ⟨plain, billed, flags⟩ := deliver_plain (s := asserted s x) (by rw [asserted_session]; exact hr) limit energy cost
      (s.cf.second / 60)
    have run := exec_meterPulse_open taken hk window rfl
    rw [plain] at run
    generalize delivered (asserted s x) r k.pulseWeight (s.cf.second / 60) = q at *
    have mu : ((withSession (asserted s x) x q).outlet x).mu = { (s.outlet x).mu with pulseAsserted := true } := by
      simp [withSession, asserted]
    have work : OutletWork x s ((asserted s x).deliver x k.pulseWeight (s.cf.second / 60)) :=
      (modMu_work s x _ id).trans (deliver_work _ x _ _)
    rw [plain] at work
    have counted := work.trans (countPulse_work _ x k.pulseWeight)
    rw [mu, if_pos window] at run
    refine ⟨_, run, counted.onlyOutlet, ?_⟩
    by_cases below : (s.outlet x).mu.windowPulse + k.pulseWeight < 1000
    · rw [countPulse_below (by rw [mu]; exact below), mu]
      obtain ⟨sq, ts, stageTx, pk, sp, sc, mu'⟩ := counted_frame (s := s) (x := x) (fun m => { m with pulseAsserted := true })
        (fun m => { m with windowPulse := (s.outlet x).mu.windowPulse + k.pulseWeight }) q
      unfold asserted
      exact ⟨by rw [mu'], sq, ts, stageTx, sp, by rw [sc], q, by rw [sc], billed, by rw [if_pos below]; exact ⟨mu', pk, flags⟩⟩
    · rw [countPulse_full (by rw [mu]; exact Nat.not_lt.1 below), mu]
      dsimp only
      have closed (n : Nat) := counted_frame (s := s) (x := x) (fun m => { m with pulseAsserted := true })
        (fun m => { m with windowPulse := 0, windowSample := 0, disagree := n }) q
      unfold windowClosed asserted
      by_cases agrees : (s.outlet x).mu.windowSample ≤ 1050 ∧ 950 ≤ (s.outlet x).mu.windowSample
      · obtain ⟨sq, ts, stageTx, pk, sp, sc, mu'⟩ := closed 0
        rw [if_pos agrees]
        exact ⟨by rw [mu'], sq, ts, stageTx, sp, by rw [sc], q, by rw [sc], billed,
          by rw [if_neg below, if_pos agrees]; exact ⟨mu', pk, flags⟩⟩
      · rw [if_neg agrees]
        by_cases more : (s.outlet x).mu.disagree < 2
        · obtain ⟨sq, ts, stageTx, pk, sp, sc, mu'⟩ := closed ((s.outlet x).mu.disagree + 1)
          rw [if_pos more]
          exact ⟨by rw [mu'], sq, ts, stageTx, sp, by rw [sc], q, by rw [sc], billed,
            by rw [if_neg below, if_neg agrees, if_pos more]; exact ⟨mu', pk, flags⟩⟩
        · obtain ⟨sq, ts, stageTx, pk, sp, sc, mu'⟩ := closed 0
          obtain ⟨sq', ts', stageTx', pk', sp', state', session', mu''⟩ := flagged_frame (x := x) (show (_ : Option _) = some q from congrArg SessionOutlet.session sc)
          rw [if_neg more]
          exact ⟨by rw [mu'', mu'], sq'.trans sq, ts'.trans ts, stageTx'.trans stageTx, sp'.trans sp, by rw [state', sc],
            _, session', billed, by
              rw [if_neg below, if_neg agrees, if_neg more]
              exact ⟨mu''.trans mu', by rw [pk', pk], by rw [flags]⟩⟩

end

end Sys2Proof.Proofs.Pulses
end

section
/-! The cells of the park line and its events (R2, R3, R10 to R17): runs of cells, the transmission, and what ends an attempt. -/

namespace Sys2Proof.Proofs.LineCells

open Machine StopAndClash

section
variable {s t : State}

/-! ## Runs of cells (R2, R3) -/

/-- A cell of the other level ends a run. -/
theorem runOf_behind {c d : Cell} (h : d ≠ c) (front cells : List Cell) : runOf c (front ++ d :: cells) = runOf c cells := by
  induction cells using List.reverseRecOn with
  | nil => rw [runOf_append, if_neg h]; rfl
  | append_singleton cells e ih => rw [← List.cons_append, ← List.append_assoc, runOf_append, runOf_append, ih]

theorem runOf_le_length (c : Cell) (cells : List Cell) : runOf c cells ≤ cells.length :=
  (List.takeWhile_sublist _).length_le.trans (List.length_reverse ..).le

theorem byteCells_lead (b : Byte) : byteCells b = .dominant :: (byteCells b).tail := rfl

theorem byteCells_msb (b : Byte) : byteCells b =
    .dominant :: (List.range 8).map (fun i => if b.getMsbD i = true then .recessive else .dominant) ++ [.recessive] := rfl

/-- The tail cell of a byte ends every dominant run. -/
theorem runOf_dominant_byte (b : Byte) (cells : List Cell) : runOf .dominant (byteCells b ++ cells) = runOf .dominant cells := by
  rw [byteCells_eq, List.append_assoc]
  exact runOf_behind (by decide) _ _

/-- The lead cell of a frame ends every recessive run before it. -/
theorem runOf_recessive_lead (front cells : List Cell) :
    runOf .recessive (front ++ .dominant :: cells) = runOf .recessive (.dominant :: cells) :=
  (runOf_behind (by decide) front cells).trans (runOf_behind (by decide) [] cells).symm

theorem take_frameCells (b : Byte) (rest : List Byte) (n : Nat) : (frameCells (b :: rest)).take n =
    (byteCells b).take n ++ (frameCells rest).take (n - 10) := by
  show (byteCells b ++ frameCells rest).take n = _
  rw [List.take_append, byteCells_length]

theorem runs_byte (b : Byte) {n : Nat} (h : n ≤ 10) :
    runOf .dominant ((byteCells b).take n) ≤ 9 ∧ runOf .recessive ((byteCells b).take n) ≤ 9 := by
  obtain rfl | below := h.eq_or_lt
  · have whole : (byteCells b).take 10 = byteCells b := List.take_of_length_le (byteCells_length b).le
    have dominant := runOf_dominant_byte b []
    rw [List.append_nil] at dominant
    rw [whole, dominant]
    refine ⟨Nat.zero_le _, ?_⟩
    rw [byteCells_lead]
    exact (runOf_behind (by decide) [] _).le.trans (runOf_le_length _ _)
  · have short : ((byteCells b).take n).length ≤ 9 := by rw [List.length_take]; omega
    exact ⟨(runOf_le_length _ _).trans short, (runOf_le_length _ _).trans short⟩

/-- R2: no run inside a frame is above nine cells. -/
theorem runs_frame (bytes : List Byte) (n : Nat) :
    runOf .dominant ((frameCells bytes).take n) ≤ 9 ∧ runOf .recessive ((frameCells bytes).take n) ≤ 9 := by
  induction bytes generalizing n with
  | nil => exact ⟨by rw [frameCells, List.flatMap_nil, List.take_nil]; decide, by rw [frameCells, List.flatMap_nil, List.take_nil]; decide⟩
  | cons b rest ih =>
    rw [take_frameCells]
    by_cases inside : n ≤ 10
    · rw [Nat.sub_eq_zero_of_le inside, List.take_zero, List.append_nil]
      exact runs_byte b inside
    · have whole : (byteCells b).take n = byteCells b := List.take_of_length_le (by rw [byteCells_length]; omega)
      obtain ⟨dominant, recessive⟩ := ih (n - 10)
      rw [whole, runOf_dominant_byte]
      refine ⟨dominant, ?_⟩
      cases rest with
      | nil =>
        have byte := (runs_byte b le_rfl).2
        rw [List.take_of_length_le (byteCells_length b).le] at byte
        rw [frameCells, List.flatMap_nil, List.take_nil, List.append_nil]
        exact byte
      | cons c more =>
        obtain ⟨m, hm⟩ : ∃ m, n - 10 = m + 1 := ⟨n - 11, by omega⟩
        have lead : (frameCells (c :: more)).take (m + 1) = .dominant :: ((frameCells (c :: more)).tail).take m := rfl
        rw [hm, lead] at recessive ⊢
        rw [runOf_recessive_lead]
        exact recessive

/-! ## Transmission (R10, R12, R13) -/

theorem nextFrame_first {l : LineInterface} {k : FrameKind} {bytes : List Byte} (h : l.slot k = some bytes)
    (first : ∀ j : FrameKind, j.code < k.code → l.slot j = none) : l.nextFrame = some (k, bytes) := by
  unfold LineInterface.nextFrame
  cases k with
  | halt => rw [show l.haltSlot = some bytes from h]
  | curtail => rw [show l.haltSlot = none from first .halt (by decide), show l.curtailSlot = some bytes from h]
  | announce =>
    rw [show l.haltSlot = none from first .halt (by decide), show l.curtailSlot = none from first .curtail (by decide),
      show l.announceSlot = some bytes from h]

theorem nextFrame_none {l : LineInterface} (h : ∀ k, l.slot k = none) : l.nextFrame = none := by
  unfold LineInterface.nextFrame
  rw [show l.haltSlot = none from h .halt, show l.curtailSlot = none from h .curtail, show l.announceSlot = none from h .announce]

/-- The line interface without the frame that was acknowledged. -/
theorem slot_setSlot (l : LineInterface) (k j : FrameKind) (v : Option (List Byte)) :
    (l.setSlot k v).slot j = if j = k then v else l.slot j := by
  cases k <;> cases j <;> rfl

theorem attemptEnds_slot (l : LineInterface) (k j : FrameKind) (bytes : List Byte) (replaced ack : Bool) :
    (l.attemptEnds k bytes replaced ack).slot j = if ack = true ∧ replaced = false ∧ j = k then none else l.slot j := by
  have same : (l.attemptEnds k bytes replaced ack).slot j = (if (ack && !replaced) = true then l.setSlot k none else l).slot j := by
    cases j <;> rfl
  rw [same]
  cases ack <;> cases replaced <;> simp [slot_setSlot]

theorem setSlot_line (l : LineInterface) (k : FrameKind) (v : Option (List Byte)) : (l.setSlot k v).condition = l.condition ∧
    (l.setSlot k v).lastFault = l.lastFault ∧ (l.setSlot k v).ackDriven = l.ackDriven := by
  cases k <;> exact ⟨rfl, rfl, rfl⟩

theorem attemptEnds_line (l : LineInterface) (k : FrameKind) (bytes : List Byte) (replaced ack : Bool) :
    (l.attemptEnds k bytes replaced ack).recessive = (if ack = true then 0 else runOf .recessive (frameCells bytes) + 1) ∧
    (l.attemptEnds k bytes replaced ack).dominant = (if ack = true then 1 else 0) ∧
    (l.attemptEnds k bytes replaced ack).activity = .quiet ∧ (l.attemptEnds k bytes replaced ack).condition = l.condition ∧
    (l.attemptEnds k bytes replaced ack).lastFault = l.lastFault ∧ (l.attemptEnds k bytes replaced ack).ackDriven = l.ackDriven := by
  obtain ⟨condition, lastFault, ackDriven⟩ := setSlot_line l k none
  obtain ⟨dominant, recessive⟩ := runOf_acked bytes
  unfold LineInterface.attemptEnds LineInterface.afterCells
  refine ⟨?_, ?_, rfl, ?_, ?_, ?_⟩
  · cases ack
    · exact (runOf_append _ _ _).trans (if_pos rfl)
    · exact (runOf_append _ _ _).trans (if_neg (by decide))
  · cases ack
    · exact (runOf_append _ _ _).trans (if_neg (by decide))
    · refine (runOf_append _ _ _).trans ((if_pos rfl).trans ?_)
      rw [runOf_dominant_frameCells]; rfl
  · dsimp only; split
    · exact condition
    · rfl
  · dsimp only; split
    · exact lastFault
    · rfl
  · dsimp only; split
    · exact ackDriven
    · rfl

theorem exec_transmitComplete {k : FrameKind} {bytes : List Byte} {replaced : Bool} (h : s.li.activity = .sending k bytes replaced)
    (ack : Bool) : exec (.transmitComplete ack) s = .next { s with
      li := s.li.attemptEnds k bytes replaced ack
      se := { s.se with ackReported := s.se.ackReported || (ack && !replaced && decide (k = .announce)) } } := by
  show execTransmitComplete ack s = _
  unfold execTransmitComplete
  rw [h]

/-- Settles O5: the first full slot starts, and the ack cell decides about the slot. -/
theorem transmission : Obligations.Transmission := by
  intro s
  refine ⟨fun idle free quiet k bytes hk first => ?_, fun h => ?_, fun k bytes replaced ack h => ?_⟩
  · show execTransmitStart s = _
    unfold execTransmitStart
    rw [if_pos ⟨idle, free, quiet⟩, nextFrame_first hk first]
  · show execTransmitStart s = _
    unfold execTransmitStart
    split
    · next g =>
      obtain ⟨idle, free, quiet⟩ := g
      obtain h | h | h | h := h
      · exact absurd idle h
      · exact absurd h free
      · exact absurd quiet h
      · rw [nextFrame_none h]
    · rfl
  · obtain ⟨recessive, dominant, activity, condition, lastFault, ackDriven⟩ := attemptEnds_line s.li k bytes replaced ack
    exact ⟨_, exec_transmitComplete h ack, rfl, fun j => attemptEnds_slot s.li k j bytes replaced ack, recessive, dominant, activity,
      condition, lastFault, ackDriven⟩

/-! ## The events that end an attempt (R11, R14, R17) -/

theorem sends_iff (bytes : List Byte) (cell : Nat) (level : Cell) : sends bytes cell level = true ↔ (frameCells bytes)[cell]? = some level :=
  beq_iff_eq

theorem lineFault_eq (s : State) (f : LineFault) : s.lineFault f =
    { s with li := { s.li with lastFault := f }, pk := { s.pk with edge := s.pk.edge ||| 0x20 } } := by
  simp [State.lineFault, State.raise, Cause.index, BitVec.twoPow]

theorem exec_arbitrationLost {k : FrameKind} {bytes : List Byte} {replaced : Bool} (h : s.li.activity = .sending k bytes replaced)
    {cell : Fin 8} (hc : (frameCells bytes)[1 + cell.val]? = some .recessive) : exec (.arbitrationLost cell) s =
      .next { s with li := { s.li with
        activity := .receiving, recessive := 0, dominant := runOf .dominant ((frameCells bytes).take (1 + cell.val)) + 1 } } := by
  obtain ⟨recessive, dominant⟩ := runOf_cellsUntil bytes (1 + cell.val)
  show execArbitrationLost s cell = _
  unfold execArbitrationLost
  rw [h]
  dsimp only
  rw [if_pos ((sends_iff _ _ _).2 hc), LineInterface.afterCells, recessive, dominant]

theorem exec_arbitrationLost_elsewhere {cell : Fin 8} (hc : ∀ k bytes replaced, s.li.activity = .sending k bytes replaced →
    (frameCells bytes)[1 + cell.val]? ≠ some .recessive) : exec (.arbitrationLost cell) s = .next s := by
  show execArbitrationLost s cell = _
  unfold execArbitrationLost
  cases h : s.li.activity with
  | sending k bytes replaced => exact if_neg fun g => hc k bytes replaced h ((sends_iff _ _ _).1 g)
  | receiving => rfl
  | quiet => rfl

theorem exec_txFault {k : FrameKind} {bytes : List Byte} {replaced : Bool} (h : s.li.activity = .sending k bytes replaced) {cell : Nat}
    (hc : (frameCells bytes)[cell]? = some .dominant) : exec (.txFault cell) s = .next { s with
      li := { s.li with activity := .quiet, recessive := runOf .recessive ((frameCells bytes).take cell) + 1, dominant := 0
                        lastFault := .txFault }
      pk := { s.pk with edge := s.pk.edge ||| 0x20 } } := by
  have recessive : runOf .recessive (cellsUntil bytes cell .recessive) = runOf .recessive ((frameCells bytes).take cell) + 1 :=
    (runOf_append _ _ _).trans (if_pos rfl)
  have dominant : runOf .dominant (cellsUntil bytes cell .recessive) = 0 := (runOf_append _ _ _).trans (if_neg (by decide))
  show execTxFault s cell = _
  unfold execTxFault
  rw [h]
  dsimp only
  rw [if_pos ((sends_iff _ _ _).2 hc), lineFault_eq, LineInterface.afterCells, recessive, dominant]

theorem exec_txFault_elsewhere {cell : Nat} (hc : ∀ k bytes replaced, s.li.activity = .sending k bytes replaced →
    (frameCells bytes)[cell]? ≠ some .dominant) : exec (.txFault cell) s = .next s := by
  show execTxFault s cell = _
  unfold execTxFault
  cases h : s.li.activity with
  | sending k bytes replaced => exact if_neg fun g => hc k bytes replaced h ((sends_iff _ _ _).1 g)
  | receiving => rfl
  | quiet => rfl

/-- The run that a dominant tail cell ends in. -/
def framingRun (byte : Byte) : Nat := runOf .dominant ((byteCells byte).take 9) + 1

theorem framingRun_le (byte : Byte) : 1 ≤ framingRun byte ∧ framingRun byte ≤ 10 :=
  ⟨Nat.le_add_left 1 _, Nat.succ_le_succ (runs_byte byte (by decide)).1⟩

theorem exec_framingError (byte : Byte) : exec (.framingError byte) s = .next (if s.li.activity = .quiet then s
    else { s with li := { s.li with activity := .quiet, recessive := 0, dominant := framingRun byte } }) := by
  have recessive : runOf .recessive (cellsOfFramingError byte) = 0 := (runOf_append _ _ _).trans (if_neg (by decide))
  have dominant : runOf .dominant (cellsOfFramingError byte) = framingRun byte := (runOf_append _ _ _).trans (if_pos rfl)
  show execFramingError s byte = _
  unfold execFramingError
  dsimp only
  rw [LineInterface.afterCells, recessive, dominant]
  cases h : s.li.activity <;> rfl

/-! ## The condition of the line (R3, R15, R16) -/

theorem becomesStuck_eq (s : State) : s.becomesStuck = if s.li.condition = .stuck then s
    else { s with li := { s.li with condition := .stuck, activity := .quiet, lastFault := .lineStuck }
                  pk := { s.pk with edge := s.pk.edge ||| 0x20 } } := by
  unfold State.becomesStuck
  rw [lineFault_eq]

theorem exec_lineStuck (s : State) : exec .lineStuck s =
    .next (if s.li.condition = .stuck then { s with li := { s.li with recessive := 0, dominant := 16 } }
      else { s with
        li := { s.li with condition := .stuck, activity := .quiet, recessive := 0, dominant := 16, lastFault := .lineStuck }
        pk := { s.pk with edge := s.pk.edge ||| 0x20 } }) := by
  show execLineStuck s = _
  unfold execLineStuck
  rw [becomesStuck_eq]

theorem dominantCell_eq (s : State) {edge : Bool} {n : Nat} (hn : n = if edge = true then 1 else s.li.dominant + 1) :
    s.dominantCell edge = if n < 16 ∨ s.li.condition = .stuck then { s with li := { s.li with recessive := 0, dominant := n } }
      else { s with
        li := { s.li with condition := .stuck, activity := .quiet, recessive := 0, dominant := n, lastFault := .lineStuck }
        pk := { s.pk with edge := s.pk.edge ||| 0x20 } } := by
  unfold State.dominantCell
  dsimp only
  rw [← hn, becomesStuck_eq]
  by_cases below : n < 16
  · rw [if_neg (show ¬ Config.stuckCells ≤ n from Nat.not_le.2 below),
      if_pos (show n < 16 ∨ s.li.condition = .stuck from .inl below)]
  · rw [if_pos (show Config.stuckCells ≤ n from Nat.not_lt.1 below)]
    exact if_congr (or_iff_right below).symm rfl rfl

theorem exec_peerLeadCell_used (h : s.li.condition ≠ .idle) (edge : Bool) : exec (.peerLeadCell edge) s = .next (s.dominantCell edge) := by
  show execPeerLeadCell s edge = _
  unfold execPeerLeadCell
  cases hc : s.li.condition with
  | idle => exact absurd hc h
  | busy => rfl
  | stuck => rfl

theorem exec_peerLeadCell_idle (h : s.li.condition = .idle) (edge : Bool) : exec (.peerLeadCell edge) s =
    if edge = true then .next { s with li := { s.li with condition := .busy, activity := .receiving, recessive := 0, dominant := 1 } }
    else .next s := by
  show execPeerLeadCell s edge = _
  unfold execPeerLeadCell
  rw [h]

/-- Settles O6: the runs of a frame's cells, and the events of the line. -/
theorem lineEvents : Obligations.LineEvents := by
  refine ⟨byteCells_msb, fun _ _ => rfl, rfl, runOf_append, fun _ => rfl, fun bytes n => ⟨(runs_frame bytes n).1, (runs_frame bytes n).2, ?_⟩,
    fun s => ⟨fun k bytes replaced h => ⟨fun cell hc => exec_arbitrationLost h hc, fun cell hc => exec_txFault h hc⟩,
      fun cell hc => exec_arbitrationLost_elsewhere hc, fun cell hc => exec_txFault_elsewhere hc, fun byte n hn => ?_, exec_lineStuck s, rfl,
      fun h => ⟨exec_peerLeadCell_idle h true, exec_peerLeadCell_idle h false⟩, fun h edge n hn => ?_⟩⟩
  · have whole := (runs_frame bytes (frameCells bytes).length).2
    rw [List.take_length] at whole
    rw [runOf_append, if_pos rfl]
    exact Nat.succ_le_succ whole
  · obtain ⟨low, high⟩ := framingRun_le byte
    have run : n = framingRun byte := hn
    rw [run]
    exact ⟨low, high, exec_framingError byte⟩
  · rw [exec_peerLeadCell_used h, dominantCell_eq s hn]

end

end Sys2Proof.Proofs.LineCells
end

section
/-! What the link brings while a service restart is done (R192): the receiver's work on the pedestal link's record, and the same work
while a response is being sent. -/

namespace Sys2Proof.Proofs.RestartHearing

open Machine LinkEvents

section
variable {s t : State} {k : PedestalLink}

/-! ## Hearing, on the pedestal link alone -/

/-- A command waits, or a response is HELD (R181). -/
def blocked (k : PedestalLink) : Bool :=
  decide (k.command ≠ .empty) || match k.response with
    | .held _ => true
    | .sending _ => false
    | .empty => false

/-- What falls due while the link is busy: it waits, or is discarded with LINK_OVERRUN. -/
def waits (k : PedestalLink) (due : CommandBuffer) : PedestalLink :=
  if due = .empty then k else if blocked k = true then { k with edge := k.edge ||| 0x100 } else { k with command := due }

/-- One input heard on a busy link. -/
def heard (k : PedestalLink) (i : LinkInput) : PedestalLink :=
  match i with
  | .byte b => waits { k with receiver := (k.receiver.afterByte b).1, gapTimer := true } (k.receiver.afterByte b).2
  | .stopBitError => { k with receiver := k.receiver.afterStopBitError, gapTimer := true }
  | .gap => { k with receiver := .hunt, gapTimer := false }

theorem blocked_eq (s : State) : s.linkBlocked = blocked s.pk := by
  unfold State.linkBlocked blocked
  cases s.pk.command <;> cases s.pk.response <;> rfl

theorem letWait_eq {due : CommandBuffer} (h : due ≠ .empty) : s.letWait due = { s with pk := waits s.pk due } := by
  unfold State.letWait waits
  rw [if_neg h, blocked_eq, raise_linkOverrun]
  split <;> rfl

theorem hearInRestart_eq (s : State) (i : LinkInput) : s.hearInRestart i = { s with pk := heard s.pk i } := by
  cases i with
  | byte b =>
    unfold State.hearInRestart heard
    dsimp only
    cases h : (s.pk.receiver.afterByte b).2 with
    | empty => rfl
    | command code data => exact letWait_eq (by simp)
    | badFrame code => exact letWait_eq (by simp)
  | stopBitError => rfl
  | gap => rfl

/-- While a response is being sent an input does what it does in a restart. -/
theorem exec_event (h : s.pk.response ≠ .empty) (i : LinkInput) : exec i.event s = .next { s with pk := heard s.pk i } := by
  rw [← hearInRestart_eq]
  cases i with
  | byte b =>
    show Host.Outcome.next (s.receiveByte b) = _
    unfold State.receiveByte State.hearInRestart
    dsimp only
    cases (s.pk.receiver.afterByte b).2 with
    | empty => rfl
    | command code data => exact congrArg Host.Outcome.next (offerCommand_wait (s := s.receiverTo _) (.inr h) code data)
    | badFrame code => exact congrArg Host.Outcome.next (offerBadFrame_wait (s := s.receiverTo _) (.inr h) code)
  | stopBitError => rfl
  | gap => rfl

theorem waits_response (k : PedestalLink) (due : CommandBuffer) : (waits k due).response = k.response := by
  unfold waits
  split
  · rfl
  · split <;> rfl

theorem heard_response (k : PedestalLink) (i : LinkInput) : (heard k i).response = k.response := by
  cases i with
  | byte b => exact waits_response _ _
  | stopBitError => rfl
  | gap => rfl

theorem foldl_hearInRestart (inputs : List LinkInput) (s : State) :
    inputs.foldl State.hearInRestart s = { s with pk := inputs.foldl heard s.pk } := by
  induction inputs generalizing s with
  | nil => rfl
  | cons i rest ih => rw [List.foldl_cons, ih, hearInRestart_eq]; rfl

theorem hearAllInRestart_eq (s : State) :
    s.hearAllInRestart = { s with pk := { s.pk.restartInput.foldl heard s.pk with restartInput := [] } } := by
  unfold State.hearAllInRestart
  rw [foldl_hearInRestart]

theorem afterInputs_eq (inputs : List LinkInput) {s : State} (h : s.pk.response ≠ .empty) :
    s.afterInputs inputs = { s with pk := inputs.foldl heard s.pk } := by
  induction inputs generalizing s with
  | nil => rfl
  | cons i rest ih =>
    have step : s.afterInputs (i :: rest) = ({ s with pk := heard s.pk i } : State).afterInputs rest := by
      unfold State.afterInputs
      rw [List.foldl_cons, exec_event h]
    rw [step, ih (by rw [show ({ s with pk := heard s.pk i } : State).pk.response = s.pk.response from heard_response _ _]; exact h)]
    rfl

/-! ## Hearing beside another response, input or cause -/

/-- The link's record with another response and input, and with more causes pending. -/
def dressed (k : PedestalLink) (r : ResponseBuffer) (l : List LinkInput) (m : BitVec 9) : PedestalLink :=
  { k with response := r, restartInput := l, edge := k.edge ||| m }

theorem blocked_dressed (hk : k.response = .empty) {r : ResponseBuffer} (hr : ∀ q, r ≠ .held q) (l : List LinkInput) (m : BitVec 9) :
    blocked (dressed k r l m) = blocked k := by
  unfold blocked dressed
  rw [hk]
  cases r with
  | held q => exact absurd rfl (hr q)
  | sending q => rfl
  | empty => rfl

theorem waits_dressed (hk : k.response = .empty) {r : ResponseBuffer} (hr : ∀ q, r ≠ .held q) (l : List LinkInput) (m : BitVec 9)
    (due : CommandBuffer) : waits (dressed k r l m) due = dressed (waits k due) r l m := by
  have order : k.edge ||| m ||| 0x100 = k.edge ||| 0x100 ||| m := by rw [BitVec.or_assoc, BitVec.or_comm m, ← BitVec.or_assoc]
  unfold waits
  rw [blocked_dressed hk hr]
  split
  · rfl
  · split
    · unfold dressed
      dsimp only
      rw [order]
    · rfl

theorem heard_dressed (hk : k.response = .empty) {r : ResponseBuffer} (hr : ∀ q, r ≠ .held q) (l : List LinkInput) (m : BitVec 9)
    (i : LinkInput) : heard (dressed k r l m) i = dressed (heard k i) r l m := by
  cases i with
  | byte b =>
    exact waits_dressed (k := { k with receiver := (k.receiver.afterByte b).1, gapTimer := true }) hk hr l m _
  | stopBitError => rfl
  | gap => rfl

theorem foldl_heard_dressed (inputs : List LinkInput) (hk : k.response = .empty) {r : ResponseBuffer} (hr : ∀ q, r ≠ .held q)
    (l : List LinkInput) (m : BitVec 9) : inputs.foldl heard (dressed k r l m) = dressed (inputs.foldl heard k) r l m := by
  induction inputs generalizing k with
  | nil => rfl
  | cons i rest ih =>
    rw [List.foldl_cons, List.foldl_cons, heard_dressed hk hr]
    exact ih ((heard_response k i).trans hk)

end

end Sys2Proof.Proofs.RestartHearing
end

section
/-! RESTART on a free link (R200): the outlets, the bookings, the line and the share engine, the link's input, and the site trip taken
anew (R88). -/

namespace Sys2Proof.Proofs.RestartCommand

open Machine OutletOperations StationWork ShareLaw SettlementQueue CommandRows Stopping OutletLaws OutletLawKept StopAndRestart StationWide
open StopAndClash Halts RoundFrames ConfigureCommand RestartHearing

section
variable {s t : State} {x : Outlet}

/-! ## The settling of the open sessions (R150, R166, R178) -/

/-- The open sessions, ended by the restart. -/
def endedSessions (s : State) : List SessionRecord := s.openSessions.map fun r => { r with endReason := some 140 }

theorem restartOutlet_settles (absent : s.fitted x = false → (s.outlet x).sc.session = none) :
    Settles s (s.restartOutlet x) ((s.outlet x).sc.session.map fun r => { r with endReason := some 140 }).toList := by
  by_cases hf : s.fitted x = true
  · exact (restartOutlet_restarted hf).settles
  · rw [restartOutlet_absent hf, absent (Bool.eq_false_iff.2 hf)]
    exact .nothing rfl rfl

theorem outletsRestarted_settles (law : Law s) : Settles s (outletsRestarted s) (endedSessions s) := by
  obtain ⟨-, cf, sq, ts, outlets⟩ := portsRestarted_frame s
  have sc : ∀ x, ((portsRestarted s).outlet x).sc = (s.outlet x).sc := fun x => by rw [outlets]; split <;> rfl
  have absent : ∀ x, (portsRestarted s).fitted x = false → ((portsRestarted s).outlet x).sc.session = none := fun x h => by
    rw [fitted_of_cf cf] at h
    rw [sc]
    exact (law.absent x h).2
  have work := restartOutlet_work (portsRestarted s) .a
  have other := work.other .b (by decide)
  have first := restartOutlet_settles (absent .a)
  have second := restartOutlet_settles (s := (portsRestarted s).restartOutlet .a) (x := .b) fun h => by
    rw [other]; exact absent .b (by rw [← fitted_of_cf work.cf]; exact h)
  rw [sc] at first
  rw [other, sc] at second
  have both := ((Settles.nothing sq ts).trans first cf).trans second (work.cf.trans cf)
  have list : [] ++ ((s.outlet .a).sc.session.map fun r => { r with endReason := some 140 }).toList ++
      ((s.outlet .b).sc.session.map fun r => { r with endReason := some 140 }).toList = endedSessions s := by
    unfold endedSessions State.openSessions
    rw [List.nil_append, List.map_append, Option.toList_map, Option.toList_map]
    rfl
  rwa [list] at both

/-- Unbinding a list of records takes from each bank's count the records of that bank. -/
theorem foldl_unbind (l : List SessionRecord) (ts : TariffStore) : l.foldl (fun b r => b.unbind r.bank) ts =
    { ts with
      bank0 := { ts.bank0 with bound := ts.bank0.bound - (l.filter fun r => r.bank == .bank0).length }
      bank1 := { ts.bank1 with bound := ts.bank1.bound - (l.filter fun r => r.bank == .bank1).length } } := by
  induction l generalizing ts with
  | nil => rfl
  | cons r rest ih =>
    rw [List.foldl_cons, ih]
    cases h : r.bank <;>
      simp [TariffStore.unbind, TariffStore.setBank, TariffStore.bank, h] <;> omega

/-- With every session settled no bank is bound (R166). -/
theorem unbind_all (law : s.QueueLaw) : (endedSessions s).foldl (fun b r => b.unbind r.bank) s.ts =
    { s.ts with bank0 := { s.ts.bank0 with bound := 0 }, bank1 := { s.ts.bank1 with bound := 0 } } := by
  obtain ⟨-, -, bank0, bank1, -⟩ := law
  have counted (i : BankId) : ((endedSessions s).filter fun r => r.bank == i).length = s.boundTo i := by
    unfold endedSessions State.boundTo
    rw [List.filter_map, List.length_map]
    rfl
  rw [foldl_unbind, counted, counted, bank0, bank1, Nat.sub_self, Nat.sub_self]

/-! ## The restart in one equation -/

theorem outletsRestarted_stageTx (s : State) : (outletsRestarted s).stageTx = s.stageTx ++ zeroSent s .a ++ zeroSent s .b := by
  have sent (u : State) (y : Outlet) : (u.restartOutlet y).stageTx = u.stageTx := by
    unfold State.restartOutlet; split <;> simp
  have work := restartStage_work s .a
  unfold outletsRestarted portsRestarted
  rw [sent, sent, restartStage_stageTx, restartStage_stageTx, zeroSent_congr (work.other .b (by decide)) work.cf]

/-- The records of an outlet after the restart. -/
def restartedOutlet (s : State) (x : Outlet) : OutletRecord :=
  if s.fitted x = true then
    { sp := restartedPort (s.outlet x).sp
      mu := { MeterOutlet.afterReset with lastDraw := (s.outlet x).mu.lastDraw, pulseAsserted := (s.outlet x).mu.pulseAsserted }
      sc := SessionOutlet.afterReset
        (if (restartedPort (s.outlet x).sp).contactor = .isOpen ∧ s.estop = false then .vacant else .outOfService) }
  else s.outlet x

theorem outletsRestarted_eq (s : State) (x : Outlet) : (outletsRestarted s).outlet x = restartedOutlet s x := by
  unfold restartedOutlet
  by_cases hf : s.fitted x = true
  · obtain ⟨sp, sc, mu⟩ := outletsRestarted_outlet (s := s) hf
    rw [if_pos hf, ← mu, ← sc, ← sp]
  · rw [if_neg hf, outletsRestarted_absent hf]

/-- The state of the service restart before the site-trip input is looked at. -/
def restarted (s : State) : State :=
  { s with
    li := s.li.restart, se := s.se.restart
    pv := { peers := [], curtail := [], ownCurtail := none, hold := 0, holdTimer := false, haltRecord := none }
    outA := restartedOutlet s .a, outB := restartedOutlet s .b, stageTx := s.stageTx ++ zeroSent s .a ++ zeroSent s .b
    ts := (endedSessions s).foldl (fun b r => b.unbind r.bank) s.ts
    sq := { queue := s.sq.queue ++ (endedSessions s).map s.settlementOf, reserved := s.sq.reserved - (endedSessions s).length }
    pk := { s.pk with edge := 0 } }

theorem restarted_outlet (s : State) (x : Outlet) : (restarted s).outlet x = restartedOutlet s x := by cases x <;> rfl

theorem serviceRestart_eq (law : Law s) : s.serviceRestart = (restarted s).retrip := by
  have shape := (restartBoth_work s).eq
  have settles := outletsRestarted_settles law
  have outA := outletsRestarted_eq s .a
  have outB := outletsRestarted_eq s .b
  have stageTx := outletsRestarted_stageTx s
  have work : State.serviceRestart s = State.retrip { outletsRestarted s with
      li := (outletsRestarted s).li.restart, se := (outletsRestarted s).se.restart
      pv := { peers := [], curtail := [], ownCurtail := none, hold := 0, holdTimer := false, haltRecord := none }
      pk := { (outletsRestarted s).pk with edge := 0 } } := rfl
  have bothShape : outletsRestarted s = { s with
      outA := (outletsRestarted s).outA, outB := (outletsRestarted s).outB, stageTx := (outletsRestarted s).stageTx
      ts := (outletsRestarted s).ts, sq := (outletsRestarted s).sq
      pk := { s.pk with edge := (outletsRestarted s).pk.edge } } := shape
  rw [work]
  refine congrArg State.retrip ?_
  have hsq := settles.sq
  have hts := settles.ts
  simp only [State.outlet] at outA outB
  rw [outA, outB, stageTx, hsq, hts] at bothShape
  generalize outletsRestarted s = t at bothShape
  rw [bothShape]
  rfl

theorem retrip_released (h : t.se.tripInput = false ∨ t.cf.config = none) : t.retrip = t := by
  unfold State.retrip
  cases hk : t.cf.config with
  | none => rfl
  | some k =>
    refine if_neg ?_
    obtain h | h := h
    · rw [h]; decide
    · rw [hk] at h; cases h

theorem retrip_asserted {k : Configuration} (h : t.se.tripInput = true) (hk : t.cf.config = some k) : t.retrip = t.tripBegins k := by
  unfold State.retrip
  rw [hk]
  exact if_pos h

theorem exec_restart (hfree : s.linkFree) :
    exec (.restart []) s = .next (s.serviceRestart.hearAllInRestart.answered 0x13 0x00 []) :=
  exec_row (c := .restart) (data := []) hfree rfl

/-- R65, R88: the share engine at a restart. -/
theorem restart_eq (e : ShareEngine) : e.restart = { e with
    state := if e.state = .unconfigured ∨ e.state = .barred then e.state else .joining
    timer := 0, failed := 0, cap := if e.state = .unconfigured ∨ e.state = .barred then e.cap else 0
    frameBuilt := false, ackReported := false, ceiling := 0, claim := 0, prevClaim := 0, prevAcked := false
    figures := { budget := none, share := none, headroom := none }, origin := 100 } := by
  unfold ShareEngine.restart
  cases e.state <;> simp

theorem restart_trip (s : State) : (restarted s).se.tripInput = s.se.tripInput := by
  show s.se.restart.tripInput = _
  rw [restart_eq]

theorem restart_line (l : LineInterface) : (∀ k, l.restart.slot k = none) ∧ l.restart.activity = .quiet ∧ l.restart.lastFault = .noFault ∧
    l.restart.condition = if l.condition = .stuck then .stuck else .busy := by
  unfold LineInterface.restart
  by_cases h : l.condition = .stuck
  · rw [if_pos h, if_pos h]
    exact ⟨fun k => by cases k <;> rfl, rfl, rfl, h⟩
  · rw [if_neg h, if_neg h]
    exact ⟨fun k => by cases k <;> rfl, rfl, rfl, rfl⟩

/-! ## The site trip taken anew (R82, R88) -/

/-- A halt that begins at outlets that are not in use raises HALT alone. -/
theorem haltBegins_pk (h : ∀ x, (s.outlet x).sc.state ≠ .connecting ∧ (s.outlet x).sc.state ≠ .energising) :
    s.haltBegins.pk = { s.pk with edge := s.pk.edge ||| 0x08 } := by
  generalize hu : ((s.raise .halt).zeroCeiling).orderZeroBoth = u
  have sc : ∀ x, (u.outlet x).sc = (s.outlet x).sc := fun x => by
    have same : ((s.raise .halt).zeroCeiling).outlet x = s.outlet x := by cases x <;> rfl
    rw [← hu, (orderZeroBoth_outlet _ x).2.2, same]
  have suspendA : u.suspend .a = u := suspend_elsewhere (by rw [sc]; exact (h .a).1) (by rw [sc]; exact (h .a).2)
  have suspendB : u.suspend .b = u := suspend_elsewhere (by rw [sc]; exact (h .b).1) (by rw [sc]; exact (h .b).2)
  have pk : u.pk = ((s.raise .halt).zeroCeiling).pk := by rw [← hu, State.orderZeroBoth]; simp
  show ((((s.raise .halt).zeroCeiling).orderZeroBoth.suspend .a).suspend .b).pk = _
  rw [hu, suspendA, suspendB, pk]
  simp [State.raise, State.zeroCeiling, Cause.index, BitVec.twoPow]

theorem tripBegins_pk (hold : s.pv.hold = 0) (h : ∀ x, (s.outlet x).sc.state ≠ .connecting ∧ (s.outlet x).sc.state ≠ .energising)
    (k : Configuration) : (s.tripBegins k).pk = { s.pk with edge := s.pk.edge ||| 0x08 } := by
  generalize hp : s.placeHalt k.tripSeconds 1 = p
  have shape : p = { s with li := p.li } := by
    rw [← hp]
    unfold State.placeHalt State.placeFrame
    split <;> rfl
  have taken : (s.tripBegins k).pk = (p.takeHalt s.ownStation k.tripSeconds 1).pk := by rw [← hp]; rfl
  rw [taken, shape]
  unfold State.takeHalt
  dsimp only
  rw [hold, if_neg (Nat.not_lt_zero _), if_pos rfl, haltBegins_pk (fun x => ?_)]
  have same : ∀ (v : PeerView) (l : LineInterface) (y : Outlet), ({ s with li := l, pv := v } : State).outlet y = s.outlet y :=
    fun v l y => by cases y <;> rfl
  rw [same]
  exact h x

theorem restarted_idle (law : Law s) (x : Outlet) : ((restarted s).outlet x).sc.state ≠ .connecting ∧
    ((restarted s).outlet x).sc.state ≠ .energising := by
  rw [restarted_outlet]
  unfold restartedOutlet
  split
  · show (if _ then _ else _) ≠ _ ∧ (if _ then _ else _) ≠ _
    split <;> exact ⟨by decide, by decide⟩
  · next absent =>
    rw [(law.absent x (Bool.eq_false_iff.2 absent)).1]
    exact ⟨by decide, by decide⟩

theorem law_restarted (law : Law s) : Law (restarted s) := by
  have outlets := law_restart law
  have cf : (outletsRestarted s).cf.straps = s.cf.straps := congrArg ConfigClock.straps (restartBoth_work s).cf
  refine law_sameOutlets outlets ?_ ?_ ?_ ?_
  · exact (outletsRestarted_eq s .a).symm
  · exact (outletsRestarted_eq s .b).symm
  · exact (restartBoth_work s).estop.symm
  · exact cf.symm

/-- A fitted outlet has an order of 0 after the restart, and the site trip leaves it as it is. -/
theorem restarted_trip_outlet (law : Law s) (k : Configuration) (hf : s.fitted x = true) :
    ((restarted s).tripBegins k).outlet x = (restarted s).outlet x := by
  have own := originateHalt_originated (restarted s) k.tripSeconds 1
  obtain ⟨-, -, -, suspends⟩ := own.begins rfl
  obtain ⟨-, outlets⟩ := suspends ((outletLaw_iff _).2 (law_restarted law))
  obtain ⟨connecting, energising⟩ := restarted_idle law x
  have kept := outlets x
  rw [if_neg (not_or.2 ⟨connecting, energising⟩)] at kept
  have ordered : ((restarted s).outlet x).sp.ordered = 0 := by
    rw [restarted_outlet, restartedOutlet, if_pos hf]
    exact (restartedPort_quiet (law.fits x).1).2.2.2.2.2.1
  obtain ⟨sp, mu, sc⟩ := kept
  rw [orderedZero_of_zero ordered] at sp
  have same : ((restarted s).tripBegins k).outlet x = ((restarted s).originateHalt k.tripSeconds 1).outlet x := by cases x <;> rfl
  rw [same]
  cases h : ((restarted s).originateHalt k.tripSeconds 1).outlet x
  cases g : (restarted s).outlet x
  rw [h, g] at sp mu sc
  dsimp only at sp mu sc
  rw [sp, mu, sc]

/-- The site-trip input is not looked at before the end. -/
theorem restarted_released (s : State) : restarted (released s) = released (restarted s) := by
  have engine : ({ s.se with tripInput := false } : ShareEngine).restart = { s.se.restart with tripInput := false } := by
    rw [restart_eq, restart_eq]
  have outlets (x : Outlet) : restartedOutlet (released s) x = restartedOutlet s x := by cases x <;> rfl
  have sent (x : Outlet) : zeroSent (released s) x = zeroSent s x := by cases x <;> rfl
  unfold restarted
  rw [outlets, outlets, sent, sent, show (released s).se.restart = { s.se.restart with tripInput := false } from engine]
  rfl

/-! ## RESTART -/

/-- The state after the link's input, with the response formed. -/
theorem heard_eq (s : State) : s.hearAllInRestart.answered 0x13 0x00 [] =
    { s with pk := { (s.pk.restartInput.foldl heard s.pk) with
      restartInput := []
      response := if (s.pk.restartInput.foldl heard s.pk).hold = true then .held { code := 0x13, status := 0x00, data := [] }
        else .sending { code := 0x13, status := 0x00, data := [] } } } := by
  rw [hearAllInRestart_eq]
  rfl

theorem foldl_heard_hold (inputs : List LinkInput) (k : PedestalLink) : (inputs.foldl heard k).hold = k.hold := by
  induction inputs generalizing k with
  | nil => rfl
  | cons i rest ih =>
    rw [List.foldl_cons, ih]
    cases i with
    | byte b =>
      show (waits _ _).hold = _
      unfold waits
      split
      · rfl
      · split <;> rfl
    | stopBitError => rfl
    | gap => rfl

/-- The site trip taken anew after a restart, field by field. -/
structure Retripped (s t : State) (k : Configuration) : Prop where
  pv : t.pv = { peers := [], curtail := [], ownCurtail := none, hold := k.tripSeconds, holdTimer := true
                haltRecord := some { source := s.ownStation, reason := 1 } }
  se : t.se = { s.se.restart with tripRepeat := 0 }
  li : if s.se.state = .barred then t.li = s.li.restart
    else Placed s.li.restart t.li .halt (parkFrame .halt s.ownStation [BitVec.ofNat 8 k.tripSeconds, 1])
  pk : t.pk = dressed (restarted s).pk s.pk.response s.pk.restartInput 0x08
  books : t.cf = s.cf ∧ t.ts = (restarted s).ts ∧ t.sq = (restarted s).sq ∧ t.estop = s.estop ∧ t.nextId = s.nextId ∧ t.pending = s.pending
  outlet : ∀ x, s.fitted x = true → t.outlet x = (restarted s).outlet x

theorem retripped (law : Law s) (k : Configuration) : Retripped s ((restarted s).tripBegins k) k := by
  have own := originateHalt_originated (restarted s) k.tripSeconds 1
  obtain ⟨shape, -⟩ := own.begins rfl
  have engine := own.se
  have line := own.li
  have cf := congrArg State.cf shape
  have ts := congrArg State.ts shape
  have sq := congrArg State.sq shape
  have estop := congrArg State.estop shape
  have nextId := congrArg State.nextId shape
  have pending := congrArg State.pending shape
  refine ⟨?_, ?_, ?_, tripBegins_pk rfl (restarted_idle law) k, ⟨cf, ts, sq, estop, nextId, pending⟩,
    fun x hf => restarted_trip_outlet law k hf⟩
  · refine own.pv.trans ?_
    unfold heldView
    rw [show (restarted s).pv.hold = 0 from rfl, Nat.zero_max, decide_eq_true (Nat.zero_le _), Bool.or_true]
    rfl
  · show { ((restarted s).originateHalt k.tripSeconds 1).se with tripRepeat := 0 } = _
    rw [engine]
    show { s.se.restart with ceiling := 0, claim := 0, tripRepeat := 0 } = _
    rw [restart_eq]
  · have state : (restarted s).se.state = .barred ↔ s.se.state = .barred := by
      show s.se.restart.state = _ ↔ _
      rw [restart_eq]
      dsimp only
      split
      · exact Iff.rfl
      · next h => exact ⟨fun g => (by cases g), fun g => absurd (.inr g) h⟩
    by_cases barred : s.se.state = .barred
    · rw [if_pos barred]
      rw [if_pos (state.2 barred)] at line
      exact line
    · rw [if_neg barred]
      rw [if_neg fun g => barred (state.1 g)] at line
      exact line

/-- Hearing beside the cause HALT. -/
theorem heard_trip (hfree : s.linkFree) {v : State} (hv : v.pk = dressed (restarted s).pk s.pk.response s.pk.restartInput 0x08) :
    v.pk.restartInput.foldl heard v.pk =
      dressed (s.pk.restartInput.foldl heard (restarted s).pk) s.pk.response s.pk.restartInput 0x08 := by
  have notHeld : ∀ q, s.pk.response ≠ .held q := fun q h => by rw [hfree.2] at h; cases h
  rw [hv]
  exact foldl_heard_dressed (k := (restarted s).pk) _ hfree.2 notHeld _ _

theorem getLsbD_halt (c : Cause) (e : BitVec 9) : (e ||| 0x08).getLsbD c.index = (e.getLsbD c.index || decide (c = .halt)) := by
  rw [BitVec.getLsbD_or]
  cases c <;> rfl

/-- R181, R192: the link's input does in a restart what it does while the response is being sent. -/
theorem heard_answered (hfree : s.linkFree) {v : State}
    (hv : v = ({ s with pk := { s.pk with
      edge := 0, restartInput := [], response := .sending { code := 0x13, status := 0x00, data := [] } } } : State).afterInputs
        s.pk.restartInput) :
    ({ (s.pk.restartInput.foldl heard (restarted s).pk) with
      restartInput := []
      response := if (s.pk.restartInput.foldl heard (restarted s).pk).hold = true then .held { code := 0x13, status := 0x00, data := [] }
        else .sending { code := 0x13, status := 0x00, data := [] } } : PedestalLink) =
      { v.pk with response := (s.answered 0x13 0x00 []).pk.response } := by
  have beside : ({ s.pk with
      edge := 0, restartInput := [], response := .sending { code := 0x13, status := 0x00, data := [] } } : PedestalLink) =
      dressed (restarted s).pk (.sending { code := 0x13, status := 0x00, data := [] }) [] 0 := by
    rw [dressed, or_none]; rfl
  have link := congrArg State.pk (hv.trans (afterInputs_eq s.pk.restartInput (fun h => by cases h)))
  dsimp only at link
  rw [beside, foldl_heard_dressed (k := (restarted s).pk) _ hfree.2 (fun q h => by cases h)] at link
  have hold : (s.pk.restartInput.foldl heard (restarted s).pk).hold = s.pk.hold := foldl_heard_hold _ _
  rw [link, hold, dressed, or_none]
  rfl

/-- Settles O34: the refusal, the restart that comes out halted by its site trip, and the plain restart. -/
theorem restart : Obligations.Restart := by
  intro s hfree law queue
  have laws := (outletLaw_iff s).1 law
  refine ⟨fun data h => ?_, fun k trip hk r hr => ?_, fun quiet => ?_⟩
  · rw [exec_row (c := .restart) (data := data) hfree rfl]
    show Host.Outcome.next (answeredBy .restart (restartCommand data s)) = _
    rw [restartCommand, if_pos h]
    rfl
  · have same : r = released s := hr
    have lawR : Law (released s) := law_sameOutlets laws
    have tripped := retripped laws k
    have hearing := heard_trip hfree tripped.pk
    obtain ⟨cf, ts, sq, estop, nextId, pending⟩ := tripped.books
    have runS : exec (.restart []) s = .next (((restarted s).tripBegins k).hearAllInRestart.answered 0x13 0x00 []) := by
      rw [exec_restart hfree, serviceRestart_eq laws, retrip_asserted ((restart_trip s).trans trip) hk]
    have runR : exec (.restart []) r = .next ((released (restarted s)).hearAllInRestart.answered 0x13 0x00 []) := by
      rw [same, exec_restart (s := released s) hfree, serviceRestart_eq lawR, restarted_released, retrip_released (.inl rfl)]
    rw [heard_eq] at runS runR
    rw [hearing] at runS
    refine ⟨_, _, runS, runR, tripped.pv, ?_, fun c => getLsbD_halt c _, ?_, tripped.li, cf, ts, sq, rfl, estop, nextId, pending,
      fun x hf => ?_⟩
    · refine tripped.se.trans ?_
      show _ = { s.se.restart with tripInput := true, tripRepeat := 0 }
      rw [restart_eq, trip]
    · rfl
    · have outlet := tripped.outlet x hf
      cases x <;> exact outlet
  · have run : exec (.restart []) s = .next ((restarted s).hearAllInRestart.answered 0x13 0x00 []) := by
      rw [exec_restart hfree, serviceRestart_eq laws,
        retrip_released (quiet.imp_left fun h => (restart_trip s).trans h)]
    rw [heard_eq] at run
    obtain ⟨slots, activity, lastFault, condition⟩ := restart_line s.li
    refine ⟨_, run, rfl, rfl, rfl, rfl, rfl, slots, activity, lastFault, condition, restart_eq s.se, unbind_all queue, ?_, fun v hv => ?_,
      ?_, fun x hf => ?_⟩
    · obtain ⟨reserved, -⟩ := queue
      show ({ queue := s.sq.queue ++ (endedSessions s).map s.settlementOf
              reserved := s.sq.reserved - (endedSessions s).length } : Machine.SettlementQueue) = _
      rw [reserved, endedSessions, List.length_map, Nat.sub_self, List.map_map]
      rfl
    · exact heard_answered hfree hv
    · show s.stageTx ++ zeroSent s .a ++ zeroSent s .b = _
      rw [zeroSent_a]
      rfl
    · have outlet : ∀ k : PedestalLink, ({ restarted s with pk := k } : State).outlet x = restartedOutlet s x := fun k => by cases x <;> rfl
      obtain ⟨-, drive, pending, feedback, plug, ordered, contactor⟩ := restartedPort_quiet (laws.fits x).1
      have port := restartedPort_eq (laws.fits x).1
      rw [outlet, restartedOutlet, if_pos hf]
      exact ⟨fun o ho => by rw [ho]; exact port, ordered, drive, pending, feedback, plug, contactor, rfl, rfl⟩

end

end Sys2Proof.Proofs.RestartCommand
end
